-- ==== Sys2Proof/Word.lean ====
section
/-! DEFINITION. The plain types of the model: bytes, node numbers, part time, the numbers of channels and axles, and
the two containers (one value per index, one value per port). Nothing here follows a rule that a test could mend. -/

namespace Sys2Proof

/-- A byte of the line or of a table entry. -/
abbrev Byte := BitVec 8

/-- A node number, 0 to 63 (00_scope.md, Numbering and naming; the six-bit fields of R1). -/
abbrev Node := BitVec 6

/-- A frame's sequence field and a port's origin count, 0 to 15 (R1, R15). -/
abbrev Seq := BitVec 4

/-- Part time: a count of milliseconds, 0 to 2^32 - 1, wrapping to 0 (R18). -/
abbrev Time := BitVec 32

/-- The two parts that share one die (00_scope.md, Variants). -/
inductive Variant where
  | hg4
  | hg6
deriving DecidableEq, Repr

/-- The number of wheel channels of a variant. -/
def Variant.channels : Variant → Nat
  | .hg4 => 4
  | .hg6 => 6

/-- The number of axles of a variant. -/
def Variant.axles : Variant → Nat
  | .hg4 => 2
  | .hg6 => 3

/-- A wheel channel. The HG4 has 0 to 3 alone; its 4 and 5 are never mapped. -/
abbrev Chan := Fin 6

/-- An axle. The HG4 has 0 and 1 alone; its 2 is never present. -/
abbrev Axle := Fin 3

/-- The channels in ascending order. -/
def allChans : List Chan := [0, 1, 2, 3, 4, 5]

/-- The axles in ascending order. -/
def allAxles : List Axle := [0, 1, 2]

/-- One value for each of `n` indices. -/
abbrev Row (n : Nat) (α : Type) := Vector α n

/-- The value at an index. -/
def Row.nth {n : Nat} {α : Type} (r : Row n α) (i : Fin n) : α := r[i]

/-- The row with one value replaced. -/
def Row.put {n : Nat} {α : Type} (r : Row n α) (i : Fin n) (x : α) : Row n α := Vector.set r i x

/-- The row that holds one value everywhere. -/
def Row.fill (n : Nat) {α : Type} (x : α) : Row n α := Vector.replicate n x

/-- A line port: U toward the cab, D toward the axles (ch. 1). -/
inductive Port where
  | u
  | d
deriving DecidableEq, Repr

/-- The other port: P' of chapter 2. -/
def Port.other : Port → Port
  | .u => .d
  | .d => .u

/-- One value for each port. -/
structure PerPort (α : Type) where
  u : α
  d : α
deriving DecidableEq, Repr

/-- The value of a port. -/
def PerPort.sel {α : Type} (x : PerPort α) : Port → α
  | .u => x.u
  | .d => x.d

/-- The pair with one port's value replaced. -/
def PerPort.put {α : Type} (x : PerPort α) (p : Port) (v : α) : PerPort α :=
  match p with
  | .u => { x with u := v }
  | .d => { x with d := v }

end Sys2Proof
end

