-- ==== Sys2Proof/Syntax.lean ====
section
/-! DEFINITION. The commands: one constructor for each row of spec/opcode_table.json, in the table's order. Each is one
step of the part, whole and indivisible (95_what_each_step_holds.md). -/

namespace Sys2Proof

/-- What a LINE_ERROR found (R9). -/
inductive LineFault where
  /-- a byte with its stop bit at the wrong level -/
  | badStopBit
  /-- the line idle for 2 byte times before the frame's expected bytes have all arrived -/
  | truncated
  /-- a byte received in READY within 2 byte times of the end of the frame before -/
  | fragment
deriving DecidableEq, Repr

/-- The commands of the block. The requests (DIR_READ to UNKNOWN_REQUEST) carry no operand of their own: each is the
completion of the service of the request in service, which holds its code, tag, arguments and source (R175; log 20). -/
inductive Instr where
  | powerOnReset (straps : BitVec 3)
  | pinReset (straps : BitVec 3)
  | receiverIdle (p : Port)
  | lineError (p : Port) (e : LineFault)
  | badLength (p : Port) (b : Byte)
  | frameArrival (p : Port) (b : Byte)
  | transmissionComplete (p : Port)
  | cycleTimerExpiry (a : Axle)
  | settleWindowEnd (c : Chan)
  | wheelDeadline1Expiry (c : Chan)
  | wheelDeadline2Expiry (c : Chan)
  | standstillTimerExpiry
  | demandDeadline1Expiry
  | demandDeadline2Expiry
  | supplyTimerExpiry (a : Axle)
  | pressureDeadline1Expiry (c : Chan)
  | pressureDeadline2Expiry (c : Chan)
  | dumpTimerExpiry (c : Chan)
  | zeroTimerExpiry (c : Chan)
  | roleValveQuietTimerExpiry (p : Port)
  | statusPeriodTimerExpiry
  | commitCheckComplete
  | dirRead
  | tableWrite
  | tableRead
  | commit
  | release
  | partRead
  | channelRead
  | faultRead
  | firstRead
  | faultClear
  | firstClear
  | restoreChannel
  | zero
  | unknownRequest
  | byteReceived (p : Port) (b : Byte)
deriving DecidableEq, Repr

end Sys2Proof
end

