-- ==== Sys2Proof/Decode.lean ====
section
/-! DEFINITION. The reading of a command from a word. spec/opcode_table.json gives no row any bits ("fields" is empty in
each), so no word spells a command (log 31). -/

namespace Sys2Proof

/-- The command a word spells by the table's bits: none, whatever the word, since no row of the table gives bits. -/
def decodeTableWord (_nbits _w : Nat) : Option Instr := none

end Sys2Proof
end

