-- ==== Sys2Proof/Config.lean ====
section
/-! DEFINITION. The free values: what the spec states no value for. They are used only where a curve or a run of
bands has no used point, which the commit check keeps out of SERVICE, DEGRADED and BACKUP (R58), so no run from reset
reads them (log 16). They have no body: nothing can be proved of them. -/

namespace Sys2Proof

/-- The value of a curve that has no used point, at an input. R106 gives none. -/
opaque Config.emptyCurveValue : Nat → Nat

/-- The x of the last used point of a LOAD_CURVE that has none. R105 gives none. -/
opaque Config.emptyCurveLastX : Nat

/-- Release slip, reapply slip and release decel of a run of bands that has no used band. R93 gives none. -/
opaque Config.emptyRunBand : Nat × Nat × Nat

end Sys2Proof
end

