-- ==== Sys2Proof/Machine/Types.lean ====
section
/-! DEFINITION. The records the blocks are made of: frames, receivers, table entries, fault entries, requests and
answers. Layouts as bytes are in Machine/Bytes.lean and Machine/Tables.lean. -/

namespace Sys2Proof.Machine

open Sys2Proof

/-- The header of a frame (R1): destination, kind, source, sequence, length. -/
structure Header where
  dest : Node
  kind : BitVec 4
  source : Node
  sequence : Seq
  length : BitVec 4
deriving DecidableEq, Repr

/-- A whole frame as it stands on the line: header, payload, check (R1). -/
structure Frame where
  header : Header
  payload : List Byte
  check : BitVec 16
deriving DecidableEq, Repr

/-- What the kind code names (R3). -/
inductive FrameKind where
  | invalid
  | demand
  | wheelSample
  | pressureSample
  | loadSample
  | doorNotice
  | valveCommand
  | nodeFault
  | statusNotice
  | mgmtRequest
  | mgmtResponse
  | general
deriving DecidableEq, Repr

/-- A receiver's state and the bytes of the frame it is receiving (R8). `ready` also records whether the line is still
within 2 byte times of the end of the frame before, the test of a fragment (R9; log 7). HEADER holds one or two bytes. -/
inductive Receiver where
  | waitIdle
  | ready (afterFrame : Bool)
  | header (b0 : Byte) (b1 : Option Byte)
  | body (h : Header) (rest : List Byte)
  | discard
deriving DecidableEq, Repr

/-- A transmitter (R14). -/
inductive Transmitter where
  | idle
  | sending (f : Frame)
deriving DecidableEq, Repr

/-- A port: its receiver, its transmitter and its origin count (R8, R14, R15). -/
structure PortState where
  rx : Receiver
  tx : Transmitter
  origin : Seq
deriving DecidableEq, Repr

/-- The mode of a valve command (R6). -/
inductive Mode where
  | close
  | fill
  | vent
  | yield
deriving DecidableEq, Repr

/-- A mode with its pulse in ms, 0 to 255; 255 is the whole cycle (R6). -/
structure Command where
  mode : Mode
  pulse : Nat
deriving DecidableEq, Repr

/-- A VALVE_COMMAND waiting in a command slot: addressed when placed, numbered when sent (section 2.3, R15). -/
structure ValveCommand where
  node : Node
  index : BitVec 2
  command : Command
deriving DecidableEq, Repr

/-- The part state (R52). -/
inductive PartState where
  | cold
  | loading
  | verify
  | service
  | degraded
  | backup
deriving DecidableEq, Repr

/-- The state of a channel (R118). -/
inductive ChanState where
  | vacant
  | yielded
  | follow
  | hold
  | dump
  | reapply
  | zeroing
deriving DecidableEq, Repr

/-- The reference unit's judgement of a channel's slip (R84). -/
inductive Decision where
  | inactive
  | under
  | within
  | over
deriving DecidableEq, Repr

/-- The warning lamp (R169). -/
inductive Lamp where
  | off
  | amber
  | red
deriving DecidableEq, Repr

/-- The sixteen fault kinds (R157). -/
inductive FaultKind where
  | linkCrc
  | linkFormat
  | fwdOverrun
  | mgmtOverrun
  | roleSource
  | roleValve
  | demandLost
  | demandDisagree
  | wheelLost
  | wheelImplausible
  | pressureLost
  | pressureTrack
  | dumpTimeout
  | nodeReported
  | supplyLow
  | zeroRange
deriving DecidableEq, Repr

/-- The consequence of a fault kind (R47). -/
inductive FaultClass where
  | noted
  | channel
  | part
deriving DecidableEq, Repr

/-- A direction of forwarding. -/
inductive Direction where
  | down
  | up
deriving DecidableEq, Repr

/-- Where a fault was found (R157). -/
inductive Locus where
  | none
  | port (p : Port)
  | direction (d : Direction)
  | channel (c : Chan)
  | axle (a : Axle)
deriving DecidableEq, Repr

/-- A report to the fault monitor (R12, R37, R157). -/
structure FaultReport where
  kind : FaultKind
  locus : Locus
  time : Time
  header : Option Header
deriving DecidableEq, Repr

/-- An entry of the fault list (R163). -/
structure FaultEntry where
  kind : FaultKind
  locus : Locus
  first : Time
  last : Time
  count : Nat
  acknowledged : Bool
  present : Bool
deriving DecidableEq, Repr

/-- The first-fault record when it is present (R166). -/
structure FirstFault where
  kind : FaultKind
  locus : Locus
  stamp : Time
  header : Option Header
deriving DecidableEq, Repr

/-- A STATUS_NOTICE's fields, fixed when it is placed (R6, R171). -/
structure Notice where
  part : PartState
  lamp : Lamp
  chans : Row 6 ChanState
  vref : Option Nat
  count : Nat
  stopHold : Bool
  standstill : Bool
  overflow : Bool
deriving DecidableEq, Repr

/-- A request in the queue or in service (R172). -/
structure Request where
  code : Byte
  tag : Byte
  args : List Byte
  source : Node
deriving DecidableEq, Repr

/-- The result of an answer (R184). -/
inductive ResultCode where
  | ok
  | okClamped
  | held
  | badIndex
  | readOnly
  | order
  | moving
  | state
  | badTable
  | causePresent
  | stale
  | noEntry
  | condition
  | busy
  | demand
  | latched
  | noSamples
  | range
  | aborted
  | unknown
deriving DecidableEq, Repr

/-- An answer waiting in the response FIFO (R7, R176). -/
structure Response where
  dest : Node
  code : Byte
  tag : Byte
  result : ResultCode
  data : List Byte
deriving DecidableEq, Repr

/-- A deferred request's source and tag (R177). -/
structure Deferred where
  source : Node
  tag : Byte
deriving DecidableEq, Repr

/-- The state a commit was taken in (R52). -/
inductive CommitOrigin where
  | loading
  | backup
deriving DecidableEq, Repr

/-- The commit in flight (R52). -/
structure CommitInFlight where
  origin : CommitOrigin
  request : Deferred
deriving DecidableEq, Repr

/-! ## Table entries, as stored (R41 to R47) -/

/-- The side of an axle a channel is on (R45). -/
inductive Side where
  | left
  | right
deriving DecidableEq, Repr

/-- The capture width of a channel's node (R45). -/
inductive CaptureWidth where
  | bits12
  | bits16
deriving DecidableEq, Repr

/-- An axle's fallback mode (R43). -/
inductive Fallback where
  | independent
  | together
deriving DecidableEq, Repr

/-- An axle's pair mode (R43). -/
inductive PairMode where
  | none
  | yawLimit
deriving DecidableEq, Repr

/-- A FORWARD window (R42). -/
structure Window where
  base : Node
  limit : Node
deriving DecidableEq, Repr

/-- An AXLE entry (R43). -/
structure AxleEntry where
  present : Bool
  fallback : Fallback
  pair : PairMode
  pFull : Nat
  pMax : Nat
  staticLoad : Nat
  loadNode : Node
deriving DecidableEq, Repr

/-- An AXLE_TIMING entry (R44). -/
structure TimingEntry where
  period : Nat
  minPulse : Nat
  lag : Nat
  deadband : Nat
  reapplyMax : Nat
  maxDump : Nat
deriving DecidableEq, Repr

/-- An AXLE_AUX entry (R44). -/
structure AuxEntry where
  stopHold : Nat
  yawMargin : Nat
  supplyMargin : Nat
  supplyWarn : Nat
deriving DecidableEq, Repr

/-- A WHEEL_MAP entry (R45). `axle` is an axle number, 0 to 2 as stored. -/
structure WheelEntry where
  present : Bool
  side : Side
  axle : Axle
  width : CaptureWidth
  wheelNode : Node
  sensorIndex : BitVec 2
  valveNode : Node
  valveIndex : BitVec 2
  tick : Nat
  teeth : Nat
  circumference : Nat
deriving DecidableEq, Repr

/-- A LOAD_CURVE point (R46); `x` is absent for an unused point. -/
structure LoadPoint where
  x : Option Nat
  gain : Nat
deriving DecidableEq, Repr

/-- A SLIP_BANDS band (R46); `x` is absent for an unused band. -/
structure SlipBand where
  x : Option Nat
  release : Nat
  reapply : Nat
  releaseDecel : Nat
deriving DecidableEq, Repr

/-- A VALVE_CURVE point (R46); `x` is absent for an unused point. -/
structure ValvePoint where
  x : Option Nat
  pulse : Nat
deriving DecidableEq, Repr

/-- A POLICY entry (R47). -/
structure PolicyEntry where
  cls : FaultClass
  mask : Bool
deriving DecidableEq, Repr

/-- The writable tables (R38); the DIRECTORY is a function of the variant. -/
structure Tables where
  global : Row 8 Nat
  roles : Row 4 Node
  forward : Row 8 Window
  axle : Row 3 AxleEntry
  timing : Row 3 TimingEntry
  aux : Row 3 AuxEntry
  wheelMap : Row 6 WheelEntry
  loadCurve : Row 24 LoadPoint
  slipBands : Row 18 SlipBand
  valveCurve : Row 48 ValvePoint
  policy : Row 16 PolicyEntry
deriving DecidableEq, Repr

/-! ## The records of the units -/

/-- The kinds that can take the CHANNEL class and have acted on a channel (R118): a set of at most six members. -/
structure LatchSet where
  wheelLost : Bool
  wheelImplausible : Bool
  pressureLost : Bool
  pressureTrack : Bool
  dumpTimeout : Bool
  nodeReported : Bool
deriving DecidableEq, Repr

/-- The base of a wheel's differences: previous count and previous capture, absent or present together (R65). -/
structure Base where
  count : Byte
  capture : Nat
deriving DecidableEq, Repr

/-- A speed record (R65). -/
structure SpeedRecord where
  base : Option Base
  speed : Option Nat
  decel : Int
  lastEdge : Option Time
  lastSample : Option Time
  stale : Bool
  lost : Bool
  deadline1 : Option Time
  deadline2 : Option Time
deriving DecidableEq, Repr

/-- The vehicle reference record (R84). -/
structure Reference where
  vref : Option Nat
  lastUpdate : Option Time
  zeroSince : Option Time
  standstill : Bool
  timer : Option Time
  slip : Row 6 Nat
  decision : Row 6 Decision
deriving DecidableEq, Repr

/-- An axle's supply record (R108). -/
structure SupplyRecord where
  supply : Option Nat
  timer : Option Time
  low : Bool
deriving DecidableEq, Repr

/-- The demand unit: the demand record (R98), the load samples (R104), the supply records (R108), the targets (R110),
the door state (R114) and stop hold (R115). -/
structure DemandUnit where
  demand : Option Nat
  lastSeq : Option Seq
  stamp : Option Time
  stale : Bool
  lost : Bool
  deadline1 : Option Time
  deadline2 : Option Time
  doorOpen : Bool
  stopHold : Bool
  load : Row 3 (Option Nat)
  supply : Row 3 SupplyRecord
  target : Row 6 Nat
deriving DecidableEq, Repr

/-- The zero accumulator (R118, R137). -/
structure ZeroAccumulator where
  sum : Nat
  count : Nat
  start : Time
deriving DecidableEq, Repr

/-- A channel context (R118). -/
structure Channel where
  state : ChanState
  latch : LatchSet
  partnerHold : Bool
  offset : Nat
  measured : Option Nat
  stamp : Option Time
  stale : Bool
  lost : Bool
  deadline1 : Option Time
  deadline2 : Option Time
  settleUntil : Option Time
  trackRef : Option Nat
  trackCount : Nat
  dumpSince : Option Time
  dumpTimer : Option Time
  zeroAcc : Option ZeroAccumulator
  zeroTimer : Option Time
  zeroRequest : Option Deferred
deriving DecidableEq, Repr

/-- Which of a channel's two slots (R141). -/
inductive SlotName where
  | a
  | b
deriving DecidableEq, Repr

/-- A channel's slots A and B, the active one, and the written flag of the pending one (R141). -/
structure SlotPair where
  slotA : Command
  slotB : Command
  active : SlotName
  written : Bool
deriving DecidableEq, Repr

/-- The configuration controller (R52). -/
structure Controller where
  part : PartState
  cause : Option FaultKind
  written : Bool
  commit : Option CommitInFlight
  heldOut : Row 6 Bool
deriving DecidableEq, Repr

/-- The two forward FIFOs (R28). -/
structure Fifos where
  down : List Frame
  up : List Frame
deriving DecidableEq, Repr

/-- The downstream arbiter: the command slots and the channel last served (R29, R30). -/
structure Downstream where
  slots : Row 6 (Option ValveCommand)
  lastServed : Chan
deriving DecidableEq, Repr

/-- The upstream arbiter: the response FIFO and the status slot (R33, R34). -/
structure Upstream where
  responses : List Response
  notice : Option Notice
deriving DecidableEq, Repr

/-- The valve scheduler: cycle timers and slots (R141). -/
structure Scheduler where
  cycle : Row 3 (Option Time)
  slots : Row 6 SlotPair
deriving DecidableEq, Repr

/-- The fault monitor (R160, R161, R163, R165, R166). -/
structure Monitor where
  list : List FaultEntry
  first : Option FirstFault
  overflow : Bool
  quiet : PerPort (Option Time)
  node : Row 6 Bool
deriving DecidableEq, Repr

/-- The responder of management requests (R172). -/
inductive Responder where
  | idle
  | serving (r : Request)
deriving DecidableEq, Repr

/-- The request queue, the responder and the reserved count (R172). -/
structure Management where
  queue : List Request
  responder : Responder
  reserved : Nat
deriving DecidableEq, Repr

/-- The status reporter: the lamp, its two pins (conducting or not) and the status period timer (R169, R170). -/
structure Reporter where
  lamp : Lamp
  lampR : Bool
  lampA : Bool
  timer : Time
deriving DecidableEq, Repr

end Sys2Proof.Machine
end

