-- ==== Sys2Proof/Machine/Bytes.lean ====
section
/-! DEFINITION. Bytes on the line: byte order, the header layout, the CRC, the codes of kinds, states, results and loci,
and the payloads the part originates. -/

namespace Sys2Proof.Machine

open Sys2Proof

/-- One byte of a number: its value modulo 256. -/
def byte (n : Nat) : Byte := BitVec.ofNat 8 n

/-- A two-byte quantity, high byte first (00_scope.md, Byte order). -/
def be16 (n : Nat) : List Byte := [byte (n / 256), byte n]

/-- A four-byte quantity, high byte first. -/
def be32 (t : Time) : List Byte :=
  [t.extractLsb' 24 8, t.extractLsb' 16 8, t.extractLsb' 8 8, t.extractLsb' 0 8]

/-- The number two bytes spell, high byte first. -/
def of16 (hi lo : Byte) : Nat := hi.toNat * 256 + lo.toNat

/-- A 16-bit two's complement number, high byte first (R180). -/
def beInt16 (i : Int) : List Byte :=
  let w := BitVec.ofInt 16 i
  [w.extractLsb' 8 8, w.extractLsb' 0 8]

/-- One bit as a number. -/
def bit (b : Bool) : Nat := if b then 1 else 0

/-- Values in `lo` to `hi`: a value below becomes `lo`, a value above becomes `hi` (00_scope.md, Arithmetic). -/
def clamp (lo hi n : Nat) : Nat := max lo (min hi n)

/-- The clamp of a signed quantity. -/
def clampInt (lo hi n : Int) : Int := max lo (min hi n)

/-! ## The header and the check -/

/-- The 24 header bits in the order of R1: destination, kind, source, sequence, length. -/
def headerBits (h : Header) : BitVec 24 := h.dest ++ h.kind ++ h.source ++ h.sequence ++ h.length

/-- Header bytes 0 to 2 (R1). -/
def headerBytes (h : Header) : List Byte :=
  let w := headerBits h
  [w.extractLsb' 16 8, w.extractLsb' 8 8, w.extractLsb' 0 8]

/-- The header that three bytes spell (R1). -/
def headerOf (b0 b1 b2 : Byte) : Header :=
  let w : BitVec 24 := b0 ++ b1 ++ b2
  { dest := w.extractLsb' 18 6, kind := w.extractLsb' 14 4, source := w.extractLsb' 8 6
    sequence := w.extractLsb' 4 4, length := w.extractLsb' 0 4 }

/-- One bit of the CRC register: shift, and reduce by x^16 + x^12 + x^5 + 1 when a one leaves (R2). -/
def crcShift (r : BitVec 16) : BitVec 16 :=
  if r.getLsbD 15 then (r <<< 1) ^^^ 0x1021#16 else r <<< 1

/-- One byte into the CRC register, most significant bit first (R2). -/
def crcByte (r : BitVec 16) (b : Byte) : BitVec 16 :=
  let r0 := r ^^^ ((b.setWidth 16) <<< 8)
  crcShift (crcShift (crcShift (crcShift (crcShift (crcShift (crcShift (crcShift r0)))))))

/-- The check of a run of bytes: the register starts at all ones, no reflection, no final inversion (R2). -/
def crc (bytes : List Byte) : BitVec 16 := bytes.foldl crcByte 0xFFFF#16

/-- The check of a header and payload (R2). -/
def frameCheck (h : Header) (payload : List Byte) : BitVec 16 := crc (headerBytes h ++ payload)

/-- A frame's bytes in the order they are sent (R1): 5 + length of them. -/
def frameBytes (f : Frame) : List Byte :=
  headerBytes f.header ++ f.payload ++ [f.check.extractLsb' 8 8, f.check.extractLsb' 0 8]

/-- A frame the part originates: its length is the payload's and its check is computed by R2 (R15). -/
def originate (dest : Node) (kind : BitVec 4) (source : Node) (seq : Seq) (payload : List Byte) : Frame :=
  let h : Header := { dest := dest, kind := kind, source := source, sequence := seq, length := BitVec.ofNat 4 payload.length }
  { header := h, payload := payload, check := frameCheck h payload }

/-! ## Codes -/

/-- The kind a code names (R3). -/
def kindOf (k : BitVec 4) : FrameKind :=
  match k.toNat with
  | 0 => .invalid
  | 1 => .demand
  | 2 => .wheelSample
  | 3 => .pressureSample
  | 4 => .loadSample
  | 5 => .doorNotice
  | 6 => .valveCommand
  | 7 => .nodeFault
  | 8 => .statusNotice
  | 9 => .mgmtRequest
  | 10 => .mgmtResponse
  | _ => .general

/-- The payload length is a permitted length for the kind (R3). Kind 0 permits none. -/
def lengthPermitted (k : FrameKind) (n : Nat) : Bool :=
  match k with
  | .invalid => false
  | .demand => n == 5
  | .wheelSample => n == 4
  | .pressureSample => n == 3 || n == 5
  | .loadSample => n == 3
  | .doorNotice => n == 1
  | .valveCommand => n == 3
  | .nodeFault => n == 2
  | .statusNotice => n == 8
  | .mgmtRequest => 2 ≤ n && n ≤ 12
  | .mgmtResponse => 3 ≤ n && n ≤ 12
  | .general => n ≤ 12

/-- The mode codes of R6. -/
def modeCode : Mode → Nat
  | .close => 0
  | .fill => 1
  | .vent => 2
  | .yield => 3

/-- The part state codes of R6. -/
def partCode : PartState → Nat
  | .cold => 0
  | .loading => 1
  | .verify => 2
  | .service => 3
  | .degraded => 4
  | .backup => 5

/-- The channel state codes of R6. -/
def chanCode : ChanState → Nat
  | .vacant => 0
  | .yielded => 1
  | .follow => 2
  | .hold => 3
  | .dump => 4
  | .reapply => 5
  | .zeroing => 6

/-- The lamp codes of R6. -/
def lampCode : Lamp → Nat
  | .off => 0
  | .amber => 1
  | .red => 2

/-- The decision codes of R180. -/
def decisionCode : Decision → Nat
  | .inactive => 0
  | .under => 1
  | .within => 2
  | .over => 3

/-- The class codes of R47. -/
def classCode : FaultClass → Nat
  | .noted => 0
  | .channel => 1
  | .part => 2

/-- The number of a fault kind (R157). -/
def FaultKind.number : FaultKind → Nat
  | .linkCrc => 1
  | .linkFormat => 2
  | .fwdOverrun => 3
  | .mgmtOverrun => 4
  | .roleSource => 5
  | .roleValve => 6
  | .demandLost => 7
  | .demandDisagree => 8
  | .wheelLost => 9
  | .wheelImplausible => 10
  | .pressureLost => 11
  | .pressureTrack => 12
  | .dumpTimeout => 13
  | .nodeReported => 14
  | .supplyLow => 15
  | .zeroRange => 16

/-- The kind's POLICY entry index: its number less one (R47). -/
def FaultKind.policyIndex (k : FaultKind) : Fin 16 := Fin.ofNat 16 (k.number - 1)

/-- The kind of a number, 1 to 16 (R157). -/
def faultKindOf (n : Nat) : Option FaultKind :=
  match n with
  | 1 => some .linkCrc
  | 2 => some .linkFormat
  | 3 => some .fwdOverrun
  | 4 => some .mgmtOverrun
  | 5 => some .roleSource
  | 6 => some .roleValve
  | 7 => some .demandLost
  | 8 => some .demandDisagree
  | 9 => some .wheelLost
  | 10 => some .wheelImplausible
  | 11 => some .pressureLost
  | 12 => some .pressureTrack
  | 13 => some .dumpTimeout
  | 14 => some .nodeReported
  | 15 => some .supplyLow
  | 16 => some .zeroRange
  | _ => none

/-- The kinds that are conditions; the others are events (R157). -/
def FaultKind.isCondition : FaultKind → Bool
  | .roleValve | .demandLost | .wheelLost | .pressureLost | .nodeReported | .supplyLow => true
  | .linkCrc | .linkFormat | .fwdOverrun | .mgmtOverrun | .roleSource | .demandDisagree | .wheelImplausible
  | .pressureTrack | .dumpTimeout | .zeroRange => false

/-- The locus code of R167. -/
def locusCode : Locus → Nat
  | .none => 0
  | .port .u => 1
  | .port .d => 2
  | .direction .down => 3
  | .direction .up => 4
  | .channel c => 16 + c.val
  | .axle a => 32 + a.val

/-- The locus a code names on the variant; none for a code that names no locus (R167). -/
def locusOf (v : Variant) (n : Nat) : Option Locus :=
  if n = 0 then some .none
  else if n = 1 then some (.port .u)
  else if n = 2 then some (.port .d)
  else if n = 3 then some (.direction .down)
  else if n = 4 then some (.direction .up)
  else if 16 ≤ n ∧ n < 16 + v.channels then some (.channel (Fin.ofNat 6 (n - 16)))
  else if 32 ≤ n ∧ n < 32 + v.axles then some (.axle (Fin.ofNat 3 (n - 32)))
  else none

/-- The result codes of R184. -/
def resultCode : ResultCode → Nat
  | .ok => 0
  | .okClamped => 1
  | .held => 2
  | .badIndex => 3
  | .readOnly => 4
  | .order => 5
  | .moving => 6
  | .state => 7
  | .badTable => 8
  | .causePresent => 9
  | .stale => 10
  | .noEntry => 11
  | .condition => 12
  | .busy => 13
  | .demand => 14
  | .latched => 15
  | .noSamples => 16
  | .range => 17
  | .aborted => 18
  | .unknown => 19

/-! ## Payloads the part originates -/

/-- Kind code 6, VALVE_COMMAND (R3). -/
def valveCommandKind : BitVec 4 := 6

/-- Kind code 8, STATUS_NOTICE (R3). -/
def statusNoticeKind : BitVec 4 := 8

/-- Kind code 10, MGMT_RESPONSE (R3). -/
def mgmtResponseKind : BitVec 4 := 10

/-- The payload of a VALVE_COMMAND: valve index, mode, pulse (R6). -/
def valvePayload (v : ValveCommand) : List Byte :=
  [v.index.setWidth 8, byte (modeCode v.command.mode), byte v.command.pulse]

/-- Two four-bit codes in one byte, the first in bits 7 to 4. -/
def nibbles (hi lo : Nat) : Byte := byte (16 * hi + lo)

/-- The payload of a STATUS_NOTICE (R6). -/
def noticePayload (n : Notice) : List Byte :=
  [ nibbles (partCode n.part) (lampCode n.lamp)
  , nibbles (chanCode (n.chans.nth 0)) (chanCode (n.chans.nth 1))
  , nibbles (chanCode (n.chans.nth 2)) (chanCode (n.chans.nth 3))
  , nibbles (chanCode (n.chans.nth 4)) (chanCode (n.chans.nth 5)) ]
  ++ be16 (n.vref.getD 65535)
  ++ [ byte n.count, byte (bit n.stopHold + 2 * bit n.standstill + 4 * bit n.overflow) ]

/-- The payload of a MGMT_RESPONSE: code and tag as received, result code, data (R7, R176). -/
def responsePayload (r : Response) : List Byte :=
  [r.code, r.tag, byte (resultCode r.result)] ++ r.data

end Sys2Proof.Machine
end

