-- ==== Sys2Proof/Machine/Tables.lean ====
section
/-! DEFINITION. The table store (ch. 3): power-on contents, the entries as bytes, what a write stores, the reference
checks, the directory, curves and their one interpolation rule, and the commit check. -/

namespace Sys2Proof.Machine

open Sys2Proof

/-! ## Power-on contents (R40) -/

/-- An AXLE entry of zero bytes: the axle absent. -/
def axleZero : AxleEntry :=
  { present := false, fallback := .independent, pair := .none, pFull := 0, pMax := 0, staticLoad := 0, loadNode := 0 }

/-- An AXLE_TIMING entry of zero bytes: unset (R44). -/
def timingZero : TimingEntry :=
  { period := 0, minPulse := 0, lag := 0, deadband := 0, reapplyMax := 0, maxDump := 0 }

/-- An AXLE_AUX entry of zero bytes: unset (R44). -/
def auxZero : AuxEntry := { stopHold := 0, yawMargin := 0, supplyMargin := 0, supplyWarn := 0 }

/-- A WHEEL_MAP entry of zero bytes: the channel unmapped. -/
def wheelZero : WheelEntry :=
  { present := false, side := .left, axle := 0, width := .bits12, wheelNode := 0, sensorIndex := 0, valveNode := 0
    valveIndex := 0, tick := 0, teeth := 0, circumference := 0 }

/-- The eight GLOBAL parameters at power-on (R41). -/
def globalPowerOn : Row 8 Nat := #v[4000, 12000, 1500, 50, 60, 60, 100, 400]

/-- The FORWARD windows at power-on (R27): entries 0 and 4 pass everything, the others are disabled. -/
def forwardPowerOn : Row 8 Window :=
  (((Row.fill 8 { base := 63, limit := 0 : Window }).put 0 { base := 0, limit := 63 }).put 4 { base := 0, limit := 63 })

/-- A kind's default class (R47). -/
def defaultClass : FaultKind → FaultClass
  | .roleValve | .demandLost => .part
  | .wheelLost | .pressureLost | .pressureTrack | .dumpTimeout | .nodeReported => .channel
  | .linkCrc | .linkFormat | .fwdOverrun | .mgmtOverrun | .roleSource | .demandDisagree | .wheelImplausible
  | .supplyLow | .zeroRange => .noted

/-- The classes a kind may take (R47). -/
def allowedClasses : FaultKind → List FaultClass
  | .roleSource | .demandDisagree => [.noted, .part]
  | .roleValve | .demandLost => [.part]
  | .wheelLost | .pressureLost | .dumpTimeout => [.channel]
  | .wheelImplausible | .pressureTrack | .nodeReported => [.noted, .channel]
  | .linkCrc | .linkFormat | .fwdOverrun | .mgmtOverrun | .supplyLow | .zeroRange => [.noted]

/-- The kind of a POLICY entry index. -/
def kindOfPolicy (i : Nat) : FaultKind := (faultKindOf (i + 1)).getD .linkCrc

/-- A POLICY entry at power-on: the default class, the mask clear (R40). -/
def policyDefault (i : Nat) : PolicyEntry := { cls := defaultClass (kindOfPolicy i), mask := false }

/-- The POLICY table at power-on. -/
def policyPowerOn : Row 16 PolicyEntry :=
  #v[policyDefault 0, policyDefault 1, policyDefault 2, policyDefault 3, policyDefault 4, policyDefault 5,
     policyDefault 6, policyDefault 7, policyDefault 8, policyDefault 9, policyDefault 10, policyDefault 11,
     policyDefault 12, policyDefault 13, policyDefault 14, policyDefault 15]

/-- Every writable table at its power-on contents (R40). -/
def tablesPowerOn : Tables :=
  { global := globalPowerOn
    roles := Row.fill 4 0
    forward := forwardPowerOn
    axle := Row.fill 3 axleZero
    timing := Row.fill 3 timingZero
    aux := Row.fill 3 auxZero
    wheelMap := Row.fill 6 wheelZero
    loadCurve := Row.fill 24 { x := none, gain := 0 }
    slipBands := Row.fill 18 { x := none, release := 0, reapply := 0, releaseDecel := 0 }
    valveCurve := Row.fill 48 { x := none, pulse := 0 }
    policy := policyPowerOn }

/-! ## The GLOBAL parameters by name (R41) -/

/-- A_up, mm/s². -/
def Tables.aUp (t : Tables) : Nat := t.global.nth 0

/-- D_max, mm/s². -/
def Tables.dMax (t : Tables) : Nat := t.global.nth 1

/-- V_min, mm/s. -/
def Tables.vMin (t : Tables) : Nat := t.global.nth 2

/-- demand_fresh, ms. -/
def Tables.demandFresh (t : Tables) : Nat := t.global.nth 3

/-- wheel_fresh, ms. -/
def Tables.wheelFresh (t : Tables) : Nat := t.global.nth 4

/-- pressure_fresh, ms. -/
def Tables.pressureFresh (t : Tables) : Nat := t.global.nth 5

/-- status_period, ms. -/
def Tables.statusPeriod (t : Tables) : Nat := t.global.nth 6

/-- zero_ms. -/
def Tables.zeroMs (t : Tables) : Nat := t.global.nth 7

/-! ## Mapped channels, present axles -/

/-- The channel's WHEEL_MAP entry is present (R45). -/
def Tables.mapped (t : Tables) (c : Chan) : Bool := (t.wheelMap.nth c).present

/-- The axle a channel's WHEEL_MAP entry names (R45). -/
def Tables.axleOf (t : Tables) (c : Chan) : Axle := (t.wheelMap.nth c).axle

/-- The mapped channels, ascending. -/
def Tables.mappedChans (t : Tables) : List Chan := allChans.filter t.mapped

/-- The mapped channels of an axle, ascending. -/
def Tables.chansOf (t : Tables) (a : Axle) : List Chan :=
  allChans.filter fun c => t.mapped c && t.axleOf c == a

/-- The axle's AXLE entry is present (R43). -/
def Tables.axlePresent (t : Tables) (a : Axle) : Bool := (t.axle.nth a).present

/-- The AXLE_TIMING entry of a channel's axle. -/
def Tables.timingOf (t : Tables) (c : Chan) : TimingEntry := t.timing.nth (t.axleOf c)

/-- The other channel of a channel's axle (R111): the mapped channel of the same axle on the other side. -/
def Tables.otherChannel (t : Tables) (c : Chan) : Option Chan :=
  allChans.find? fun c' =>
    t.mapped c' && t.axleOf c' == t.axleOf c && (t.wheelMap.nth c').side != (t.wheelMap.nth c).side

/-- The width w of a channel's capture counter (R45). -/
def widthBits : CaptureWidth → Nat
  | .bits12 => 12
  | .bits16 => 16

/-- The class and mask a kind holds in POLICY (R47). -/
def Tables.policyOf (t : Tables) (k : FaultKind) : PolicyEntry := t.policy.nth k.policyIndex

/-! ## The directory (R38, R39) -/

/-- A table (R38). -/
inductive TableId where
  | directory
  | global
  | roles
  | forward
  | axle
  | timing
  | aux
  | wheelMap
  | loadCurve
  | slipBands
  | valveCurve
  | policy
deriving DecidableEq, Repr

/-- The table id of R38. -/
def tableNumber : TableId → Nat
  | .directory => 0
  | .global => 1
  | .roles => 2
  | .forward => 3
  | .axle => 4
  | .timing => 5
  | .aux => 6
  | .wheelMap => 7
  | .loadCurve => 8
  | .slipBands => 9
  | .valveCurve => 10
  | .policy => 11

/-- The table of an id, 0 to 11 (R38). -/
def tableOf (n : Nat) : Option TableId :=
  match n with
  | 0 => some .directory
  | 1 => some .global
  | 2 => some .roles
  | 3 => some .forward
  | 4 => some .axle
  | 5 => some .timing
  | 6 => some .aux
  | 7 => some .wheelMap
  | 8 => some .loadCurve
  | 9 => some .slipBands
  | 10 => some .valveCurve
  | 11 => some .policy
  | _ => none

/-- A table's entry count on a variant (R38). -/
def entryCount (v : Variant) : TableId → Nat
  | .directory => 12
  | .global => 8
  | .roles => 4
  | .forward => 8
  | .axle | .timing | .aux => v.axles
  | .wheelMap => v.channels
  | .loadCurve => 8 * v.axles
  | .slipBands => 6 * v.axles
  | .valveCurve => 8 * v.channels
  | .policy => 16

/-- A table's entry length in bytes (R38). -/
def entryLength : TableId → Nat
  | .directory => 5
  | .global => 2
  | .roles => 1
  | .forward => 2
  | .axle => 8
  | .timing => 8
  | .aux => 7
  | .wheelMap => 7
  | .loadCurve => 4
  | .slipBands => 8
  | .valveCurve => 3
  | .policy => 2

/-- The table a descriptor describes and the next descriptor; 255 ends the chain (R39). -/
def descriptorLink (n : Nat) : TableId × Nat :=
  match n with
  | 0 => (.directory, 3)
  | 1 => (.forward, 9)
  | 2 => (.wheelMap, 10)
  | 3 => (.global, 7)
  | 4 => (.slipBands, 8)
  | 5 => (.timing, 11)
  | 6 => (.policy, 255)
  | 7 => (.roles, 1)
  | 8 => (.valveCurve, 6)
  | 9 => (.axle, 5)
  | 10 => (.loadCurve, 4)
  | _ => (.aux, 2)

/-- A descriptor's five bytes (R39): table id, entry count, entry length, writable, next. -/
def descriptorBytes (v : Variant) (n : Nat) : List Byte :=
  let (t, next) := descriptorLink n
  [byte (tableNumber t), byte (entryCount v t), byte (entryLength t), byte (bit (t != .directory)), byte next]

/-! ## Entries as bytes (R41 to R47) -/

/-- An entry of a writable table, as stored. -/
inductive Entry where
  | global (n : Nat)
  | roles (n : Node)
  | forward (w : Window)
  | axle (e : AxleEntry)
  | timing (e : TimingEntry)
  | aux (e : AuxEntry)
  | wheelMap (e : WheelEntry)
  | loadCurve (p : LoadPoint)
  | slipBands (b : SlipBand)
  | valveCurve (p : ValvePoint)
  | policy (p : PolicyEntry)
deriving DecidableEq, Repr

/-- A curve's x field: 65535 for unused (R46). -/
def xField (x : Option Nat) : List Byte := be16 (x.getD 65535)

/-- A stored entry's bytes, in the layout of its table. -/
def entryBytes : Entry → List Byte
  | .global n => be16 n
  | .roles n => [n.setWidth 8]
  | .forward w => [w.base.setWidth 8, w.limit.setWidth 8]
  | .axle e =>
    [byte (128 * bit e.present + 4 * bit (e.fallback == .together) + bit (e.pair == .yawLimit))]
    ++ be16 e.pFull ++ be16 e.pMax ++ be16 e.staticLoad ++ [e.loadNode.setWidth 8]
  | .timing e => [byte e.period, byte e.minPulse] ++ be16 e.lag ++ [byte e.deadband, byte e.reapplyMax] ++ be16 e.maxDump
  | .aux e => be16 e.stopHold ++ be16 e.yawMargin ++ [byte e.supplyMargin] ++ be16 e.supplyWarn
  | .wheelMap e =>
    [ byte (128 * bit e.present + 64 * bit (e.side == .right) + 16 * e.axle.val + 4 * bit (e.width == .bits16))
    , e.wheelNode ++ e.sensorIndex, e.valveNode ++ e.valveIndex, byte e.tick, byte e.teeth ] ++ be16 e.circumference
  | .loadCurve p => xField p.x ++ be16 p.gain
  | .slipBands b => xField b.x ++ be16 b.release ++ be16 b.reapply ++ be16 b.releaseDecel
  | .valveCurve p => xField p.x ++ [byte p.pulse]
  | .policy p => [byte (classCode p.cls), byte (bit p.mask)]

/-! ### What a write stores (R50): each field clamped to its range or replaced by its default -/

/-- A GLOBAL parameter's range (R41). -/
def globalRange (i : Nat) : Nat × Nat :=
  match i with
  | 0 => (1000, 8000)
  | 1 => (5000, 15000)
  | 2 => (500, 5000)
  | 3 => (20, 200)
  | 4 => (20, 200)
  | 5 => (20, 200)
  | 6 => (50, 1000)
  | _ => (100, 2000)

/-- A node number field: a value above 63 becomes 63. -/
def storedNode (b : Byte) : Node := BitVec.ofNat 6 (clamp 0 63 b.toNat)

/-- A curve's x field as stored: 65535 stays unused, any other value is clamped (R50). -/
def storedX (hi : Nat) (n : Nat) : Option Nat := if n = 65535 then none else some (clamp 0 hi n)

/-- Bits `lo` upward of a byte, `len` of them, as a number. -/
def field (b : Byte) (lo len : Nat) : Nat := (b.extractLsb' lo len).toNat

/-- An AXLE entry as stored (R43, R50). -/
def storedAxle (b0 f1 f0 m1 m0 s1 s0 n : Byte) : AxleEntry :=
  { present := field b0 7 1 == 1
    fallback := if field b0 2 2 = 1 then .together else .independent
    pair := if field b0 0 2 = 1 then .yawLimit else .none
    pFull := clamp 200 900 (of16 f1 f0)
    pMax := clamp 200 1000 (of16 m1 m0)
    staticLoad := clamp 0 1500 (of16 s1 s0)
    loadNode := storedNode n }

/-- An AXLE_TIMING entry as stored (R44, R50). -/
def storedTiming (p m l1 l0 d r x1 x0 : Byte) : TimingEntry :=
  { period := clamp 5 40 p.toNat
    minPulse := clamp 2 20 m.toNat
    lag := clamp 0 300 (of16 l1 l0)
    deadband := clamp 5 50 d.toNat
    reapplyMax := clamp 2 40 r.toNat
    maxDump := clamp 200 3000 (of16 x1 x0) }

/-- An AXLE_AUX entry as stored (R44, R50). -/
def storedAux (h1 h0 y1 y0 m w1 w0 : Byte) : AuxEntry :=
  { stopHold := clamp 0 1000 (of16 h1 h0)
    yawMargin := clamp 20 300 (of16 y1 y0)
    supplyMargin := clamp 0 200 m.toNat
    supplyWarn := clamp 300 1000 (of16 w1 w0) }

/-- The tick field as stored: 1, 2, 4 or 8, else the default 4 (R50). -/
def storedTick (n : Nat) : Nat := if n = 1 ∨ n = 2 ∨ n = 4 ∨ n = 8 then n else 4

/-- A WHEEL_MAP entry as stored (R45, R50). The axle field is clamped to the variant's axles; the reference check of
R49 looks at the field as sent (log 15). -/
def storedWheel (v : Variant) (b0 b1 b2 k t c1 c0 : Byte) : WheelEntry :=
  { present := field b0 7 1 == 1
    side := if field b0 6 1 = 1 then .right else .left
    axle := Fin.ofNat 3 (clamp 0 (v.axles - 1) (field b0 4 2))
    width := if field b0 2 2 = 0 then .bits12 else .bits16
    wheelNode := b1.extractLsb' 2 6
    sensorIndex := b1.extractLsb' 0 2
    valveNode := b2.extractLsb' 2 6
    valveIndex := b2.extractLsb' 0 2
    tick := storedTick k.toNat
    teeth := clamp 20 200 t.toNat
    circumference := clamp 1500 4000 (of16 c1 c0) }

/-- The class of a class code (R47). -/
def classOfCode (n : Nat) : Option FaultClass :=
  match n with
  | 0 => some .noted
  | 1 => some .channel
  | 2 => some .part
  | _ => none

/-- A POLICY entry as stored (R47): an allowed class or the default, and a mask on NOTED alone. -/
def storedPolicy (k : FaultKind) (c m : Byte) : PolicyEntry :=
  let cls :=
    match classOfCode c.toNat with
    | some x => if (allowedClasses k).contains x then x else defaultClass k
    | none => defaultClass k
  { cls := cls, mask := cls == .noted && m != 0 }

/-- The entry a write of bytes to a table's index stores (R50); none where the byte count is not the table's length,
and for the DIRECTORY. -/
def storedEntry (v : Variant) (t : TableId) (i : Nat) (bytes : List Byte) : Option Entry :=
  match t, bytes with
  | .global, [h, l] => some (.global (clamp (globalRange i).1 (globalRange i).2 (of16 h l)))
  | .roles, [n] => some (.roles (storedNode n))
  | .forward, [b, l] => some (.forward { base := storedNode b, limit := storedNode l })
  | .axle, [b0, f1, f0, m1, m0, s1, s0, n] => some (.axle (storedAxle b0 f1 f0 m1 m0 s1 s0 n))
  | .timing, [p, m, l1, l0, d, r, x1, x0] => some (.timing (storedTiming p m l1 l0 d r x1 x0))
  | .aux, [h1, h0, y1, y0, m, w1, w0] => some (.aux (storedAux h1 h0 y1 y0 m w1 w0))
  | .wheelMap, [b0, b1, b2, k, tt, c1, c0] => some (.wheelMap (storedWheel v b0 b1 b2 k tt c1 c0))
  | .loadCurve, [x1, x0, g1, g0] =>
    some (.loadCurve { x := storedX 1500 (of16 x1 x0), gain := clamp 100 1200 (of16 g1 g0) })
  | .slipBands, [x1, x0, r1, r0, a1, a0, d1, d0] =>
    some (.slipBands { x := storedX 40000 (of16 x1 x0), release := clamp 40 400 (of16 r1 r0)
                       reapply := clamp 10 390 (of16 a1 a0), releaseDecel := clamp 2000 20000 (of16 d1 d0) })
  | .valveCurve, [x1, x0, p] => some (.valveCurve { x := storedX 1500 (of16 x1 x0), pulse := p.toNat })
  | .policy, [c, m] => some (.policy (storedPolicy (kindOfPolicy i) c m))
  | _, _ => none

/-- The store with one entry replaced whole (R50). -/
def Tables.store (t : Tables) (i : Nat) (e : Entry) : Tables :=
  match e with
  | .global n => { t with global := t.global.put (Fin.ofNat 8 i) n }
  | .roles n => { t with roles := t.roles.put (Fin.ofNat 4 i) n }
  | .forward w => { t with forward := t.forward.put (Fin.ofNat 8 i) w }
  | .axle e => { t with axle := t.axle.put (Fin.ofNat 3 i) e }
  | .timing e => { t with timing := t.timing.put (Fin.ofNat 3 i) e }
  | .aux e => { t with aux := t.aux.put (Fin.ofNat 3 i) e }
  | .wheelMap e => { t with wheelMap := t.wheelMap.put (Fin.ofNat 6 i) e }
  | .loadCurve p => { t with loadCurve := t.loadCurve.put (Fin.ofNat 24 i) p }
  | .slipBands b => { t with slipBands := t.slipBands.put (Fin.ofNat 18 i) b }
  | .valveCurve p => { t with valveCurve := t.valveCurve.put (Fin.ofNat 48 i) p }
  | .policy p => { t with policy := t.policy.put (Fin.ofNat 16 i) p }

/-- The entry at a writable table's index; none for the DIRECTORY. -/
def Tables.entry (t : Tables) (id : TableId) (i : Nat) : Option Entry :=
  match id with
  | .directory => none
  | .global => some (.global (t.global.nth (Fin.ofNat 8 i)))
  | .roles => some (.roles (t.roles.nth (Fin.ofNat 4 i)))
  | .forward => some (.forward (t.forward.nth (Fin.ofNat 8 i)))
  | .axle => some (.axle (t.axle.nth (Fin.ofNat 3 i)))
  | .timing => some (.timing (t.timing.nth (Fin.ofNat 3 i)))
  | .aux => some (.aux (t.aux.nth (Fin.ofNat 3 i)))
  | .wheelMap => some (.wheelMap (t.wheelMap.nth (Fin.ofNat 6 i)))
  | .loadCurve => some (.loadCurve (t.loadCurve.nth (Fin.ofNat 24 i)))
  | .slipBands => some (.slipBands (t.slipBands.nth (Fin.ofNat 18 i)))
  | .valveCurve => some (.valveCurve (t.valveCurve.nth (Fin.ofNat 48 i)))
  | .policy => some (.policy (t.policy.nth (Fin.ofNat 16 i)))

/-- The bytes a read of an entry returns (R38, R178). -/
def Tables.readBytes (t : Tables) (v : Variant) (id : TableId) (i : Nat) : List Byte :=
  match t.entry id i with
  | some e => entryBytes e
  | none => descriptorBytes v i

/-! ## The reference checks of a write (R49) -/

/-- The axle field of a WHEEL_MAP entry as sent: bits 5 and 4 of byte 0. -/
def sentAxle (bytes : List Byte) : Nat :=
  match bytes with
  | b0 :: _ => field b0 4 2
  | [] => 0

/-- The axle of that number exists and is present. -/
def Tables.axlePresentNat (t : Tables) (v : Variant) (a : Nat) : Bool :=
  a < v.axles && t.axlePresent (Fin.ofNat 3 a)

/-- The write passes the reference checks of R49, made against the tables as they stand before it. -/
def Tables.referenceOk (t : Tables) (v : Variant) (i : Nat) (e : Entry) (bytes : List Byte) : Bool :=
  match e with
  | .wheelMap w => !w.present || t.axlePresentNat v (sentAxle bytes)
  | .timing _ | .aux _ => t.axlePresentNat v i
  | .loadCurve _ => t.axlePresentNat v (i / 8)
  | .slipBands _ => t.axlePresentNat v (i / 6)
  | .valveCurve _ => t.mapped (Fin.ofNat 6 (i / 8))
  | .axle x => x.present || (t.chansOf (Fin.ofNat 3 i)).isEmpty
  | .global _ | .roles _ | .forward _ | .policy _ => true

/-! ## Curves (R46, R106) -/

/-- The eight points of an axle's load curve, in index order. -/
def Tables.loadPoints (t : Tables) (a : Axle) : List LoadPoint :=
  (List.range 8).map fun i => t.loadCurve.nth (Fin.ofNat 24 (8 * a.val + i))

/-- The six bands of an axle, in index order. -/
def Tables.bands (t : Tables) (a : Axle) : List SlipBand :=
  (List.range 6).map fun i => t.slipBands.nth (Fin.ofNat 18 (6 * a.val + i))

/-- The eight points of a channel's valve curve, in index order. -/
def Tables.valvePoints (t : Tables) (c : Chan) : List ValvePoint :=
  (List.range 8).map fun i => t.valveCurve.nth (Fin.ofNat 48 (8 * c.val + i))

/-- The used points (x, gain) of an axle's load curve. -/
def Tables.loadUsed (t : Tables) (a : Axle) : List (Nat × Nat) :=
  (t.loadPoints a).filterMap fun p => p.x.map fun x => (x, p.gain)

/-- The used points (x, pulse) of a channel's valve curve. -/
def Tables.valveUsed (t : Tables) (c : Chan) : List (Nat × Nat) :=
  (t.valvePoints c).filterMap fun p => p.x.map fun x => (x, p.pulse)

/-- The used bands of an axle. -/
def Tables.bandsUsed (t : Tables) (a : Axle) : List SlipBand := (t.bands a).filter fun b => b.x.isSome

/-- The value between two points, the quotient truncated toward zero (R106). -/
def between (p q : Nat × Nat) (x : Nat) : Nat :=
  ((p.2 : Int) + (((x : Int) - (p.1 : Int)) * ((q.2 : Int) - (p.2 : Int))).tdiv ((q.1 : Int) - (p.1 : Int))).toNat

/-- The value at an `x` at or above the x of the point `p`, the points after it being `rest` (R106). -/
def interpolateFrom (p : Nat × Nat) (rest : List (Nat × Nat)) (x : Nat) : Nat :=
  match rest with
  | [] => p.2
  | q :: more => if x < q.1 then between p q x else interpolateFrom q more x

/-- The one interpolation rule (R106), over the used points of a curve. A curve without one has the free value of
Config (log 16). -/
def interpolate (points : List (Nat × Nat)) (x : Nat) : Nat :=
  match points with
  | [] => Config.emptyCurveValue x
  | p :: rest => if x ≤ p.1 then p.2 else interpolateFrom p rest x

/-! ## The commit check (R58) -/

/-- A failure of the commit check: table id, entry index, reason code. -/
structure CheckFailure where
  table : Nat
  index : Nat
  reason : Nat
deriving DecidableEq, Repr

/-- The first failure of a list of checks, in order. -/
def firstFailure (checks : List (Option CheckFailure)) : Option CheckFailure := checks.findSome? id

/-- One test: the failure it records when it does not hold. -/
def failUnless (ok : Bool) (table : TableId) (index reason : Nat) : Option CheckFailure :=
  if ok then none else some { table := tableNumber table, index := index, reason := reason }

/-- The scan of a curve after its emptiness test: `prev` is the x of the used entry before, `gap` tells that an unused
entry has been passed. The first used entry after an unused one fails with 11, the first whose x does not rise with 12. An entry
that meets both reasons is recorded with 11: the model's choice (log 35). -/
def scanCurve (table : TableId) (xs : List (Option Nat)) (index : Nat) (gap : Bool) (prev : Option Nat) :
    Option CheckFailure :=
  match xs with
  | [] => none
  | none :: rest => scanCurve table rest (index + 1) true prev
  | some x :: rest =>
    if gap then some { table := tableNumber table, index := index, reason := 11 }
    else
      match prev with
      | some p =>
        if x ≤ p then some { table := tableNumber table, index := index, reason := 12 }
        else scanCurve table rest (index + 1) gap (some x)
      | none => scanCurve table rest (index + 1) gap (some x)

/-- A curve's shape: empty 10, gap 11, order 12 (R58). `start` is the curve's first entry index. -/
def curveShape (table : TableId) (xs : List (Option Nat)) (start : Nat) : Option CheckFailure :=
  if xs.all Option.isNone then some { table := tableNumber table, index := start, reason := 10 }
  else scanCurve table xs start false none

/-- The margins of an axle's used bands: release slip > reapply slip + 10, else 13 (R58). -/
def bandMargins (bands : List SlipBand) (index : Nat) : Option CheckFailure :=
  match bands with
  | [] => none
  | b :: rest =>
    if b.x.isSome && !(b.reapply + 10 < b.release) then some { table := 9, index := index, reason := 13 }
    else bandMargins rest (index + 1)

/-- Some lower-numbered mapped channel's entry agrees with the channel's under `same`. -/
def Tables.twice (t : Tables) (c : Chan) (same : WheelEntry → WheelEntry → Bool) : Bool :=
  t.mappedChans.any fun c' => c'.val < c.val && same (t.wheelMap.nth c') (t.wheelMap.nth c)

/-- The present axles, ascending. -/
def Tables.presentAxles (t : Tables) : List Axle := allAxles.filter t.axlePresent

/-- The checks of one mapped channel's WHEEL_MAP entry (R58). -/
def Tables.wheelChecks (t : Tables) (c : Chan) : List (Option CheckFailure) :=
  [ failUnless (!t.twice c fun x y => x.wheelNode == y.wheelNode && x.sensorIndex == y.sensorIndex) .wheelMap c.val 7
  , failUnless (!t.twice c fun x y => x.valveNode == y.valveNode && x.valveIndex == y.valveIndex) .wheelMap c.val 8
  , failUnless (!t.twice c fun x y => x.axle == y.axle && x.side == y.side) .wheelMap c.val 9 ]

/-- The commit check: the tables in chain order, stopping at the first failure (R58). None is a pass. -/
def commitCheck (t : Tables) : Option CheckFailure :=
  firstFailure
    ([failUnless (t.roles.nth 0 != 0) .roles 0 1]
      ++ t.presentAxles.map (fun a => failUnless ((t.axle.nth a).pFull ≤ (t.axle.nth a).pMax) .axle a.val 2)
      ++ t.presentAxles.flatMap (fun a =>
          [ failUnless (t.timing.nth a != timingZero) .timing a.val 3
          , failUnless ((t.timing.nth a).minPulse < (t.timing.nth a).period) .timing a.val 4 ])
      ++ t.presentAxles.flatMap (fun a =>
          [ failUnless (t.aux.nth a != auxZero) .aux a.val 3
          , failUnless ((t.aux.nth a).stopHold ≤ (t.axle.nth a).pMax) .aux a.val 5 ])
      ++ [failUnless (!t.mappedChans.isEmpty) .wheelMap 255 6]
      ++ t.mappedChans.flatMap t.wheelChecks
      ++ t.presentAxles.map (fun a => curveShape .loadCurve ((t.loadPoints a).map LoadPoint.x) (8 * a.val))
      ++ t.presentAxles.flatMap (fun a =>
          [ curveShape .slipBands ((t.bands a).map SlipBand.x) (6 * a.val), bandMargins (t.bands a) (6 * a.val) ])
      ++ t.mappedChans.map (fun c => curveShape .valveCurve ((t.valvePoints c).map ValvePoint.x) (8 * c.val)))

end Sys2Proof.Machine
end

