-- ==== Sys2Proof/Machine/Time.lean ====
section
/-! DEFINITION. Part time: intervals, deadlines and the test that an expiry has been reached (R18). -/

namespace Sys2Proof.Machine

open Sys2Proof

/-- The interval from `since` to `now`: the difference of two part times modulo 2^32 (R18). -/
def elapsed (now since : Time) : Nat := (now - since).toNat

/-- The part time `ms` milliseconds after `t` (R18). -/
def after (t : Time) (ms : Nat) : Time := t + BitVec.ofNat 32 ms

/-- Part time `now` has reached `e`. No interval the part measures exceeds 2^31 ms (00_scope.md, Time and the line), so
the sign of the difference modulo 2^32 tells which of the two is earlier (log 24). -/
def reached (now e : Time) : Bool := elapsed now e < 2 ^ 31

/-- A timer that runs and whose expiry part time has reached. -/
def due (now : Time) (timer : Option Time) : Option Time :=
  match timer with
  | some e => if reached now e then some e else none
  | none => none

end Sys2Proof.Machine
end

