-- ==== Sys2Proof/Machine/Initial.lean ====
section
/-! DEFINITION. The values the blocks' records take after a reset and at the entries into part states that return them
to their initial values. -/

namespace Sys2Proof.Machine

open Sys2Proof

/-- The empty latch set. -/
def latchEmpty : LatchSet :=
  { wheelLost := false, wheelImplausible := false, pressureLost := false, pressureTrack := false, dumpTimeout := false
    nodeReported := false }

/-- A speed record after either reset (R66), and after a write to the channel's WHEEL_MAP entry (R81). -/
def speedInitial : SpeedRecord :=
  { base := none, speed := none, decel := 0, lastEdge := none, lastSample := none, stale := true, lost := false
    deadline1 := none, deadline2 := none }

/-- The vehicle reference record after either reset and on entry into VERIFY (R85). -/
def referenceInitial : Reference :=
  { vref := none, lastUpdate := none, zeroSince := none, standstill := false, timer := none, slip := Row.fill 6 0
    decision := Row.fill 6 .inactive }

/-- A supply record after either reset (R108). -/
def supplyInitial : SupplyRecord := { supply := none, timer := none, low := false }

/-- The demand unit after either reset (R98, R104, R108, R110, R114, R115). -/
def demandInitial : DemandUnit :=
  { demand := none, lastSeq := none, stamp := none, stale := true, lost := false, deadline1 := none, deadline2 := none
    doorOpen := false, stopHold := false, load := Row.fill 3 none, supply := Row.fill 3 supplyInitial
    target := Row.fill 6 0 }

/-- A channel context after a reset, in a given state and with a given offset (R119). -/
def channelInitial (st : ChanState) (offset : Nat) : Channel :=
  { state := st, latch := latchEmpty, partnerHold := false, offset := offset, measured := none, stamp := none
    stale := true, lost := false, deadline1 := none, deadline2 := none, settleUntil := none, trackRef := none
    trackCount := 0, dumpSince := none, dumpTimer := none, zeroAcc := none, zeroTimer := none, zeroRequest := none }

/-- CLOSE 0, the reset value of both slots (R141). -/
def closeZero : Command := { mode := .close, pulse := 0 }

/-- YIELD 0, the entry command of YIELDED and ZEROING and the purge's command (R31, R121). -/
def yieldZero : Command := { mode := .yield, pulse := 0 }

/-- VENT 255, the entry command of DUMP (R121). -/
def ventFull : Command := { mode := .vent, pulse := 255 }

/-- A channel's slots after either reset and at a passing commit (R141, R153). -/
def slotsInitial : SlotPair := { slotA := closeZero, slotB := closeZero, active := .a, written := false }

/-- The valve scheduler after either reset (R141, R154). -/
def schedulerInitial : Scheduler := { cycle := Row.fill 3 none, slots := Row.fill 6 slotsInitial }

/-- The fault monitor after either reset (R160, R161, R163, R165, R166). -/
def monitorInitial : Monitor :=
  { list := [], first := none, overflow := false, quiet := { u := none, d := none }, node := Row.fill 6 false }

/-- The management responder after either reset (R172). -/
def managementInitial : Management := { queue := [], responder := .idle, reserved := 0 }

/-- A port after either reset: receiver in WAIT_IDLE, transmitter IDLE, origin count 0 (R17). -/
def portInitial : PortState := { rx := .waitIdle, tx := .idle, origin := 0 }

/-- The channel last served after either reset: the highest channel of the variant (R30). -/
def highestChannel : Variant → Chan
  | .hg4 => 3
  | .hg6 => 5

/-- The part's own node address: 48 plus the value on the straps (R17). -/
def addressOf (straps : BitVec 3) : Node := BitVec.ofNat 6 (48 + straps.toNat)

end Sys2Proof.Machine
end

