-- ==== Sys2Proof/Machine/State.lean ====
section
/-! DEFINITION. The whole state of the part as plain data, block by block as 00_scope.md's block overview lists them,
with the queue of waiting commands; the reasons a step could stop; and the state right after power-on reset. -/

namespace Sys2Proof.Machine

open Sys2Proof

/-- The reasons the machine could stop with a fault: none. Every command of the table has its effect in every state, or
is an event that cannot occur there and leaves the state as it is (log 5, log 29). Safe: nothing is claimed of a stop. -/
inductive Fault where
deriving DecidableEq, Repr

/-- The reasons a command could be refused. -/
inductive Refusal where
  /-- Raised by an arm of exec whose command has no meaning yet; no arm raises it. Safe: nothing is claimed of it. -/
  | notModelled (mnemonic : String)
deriving DecidableEq, Repr

/-- The state of the part. -/
structure State where
  /-- the variant, fixed at manufacture (00_scope.md, Variants; log 1) -/
  variant : Variant
  /-- the part's own node address (R17) -/
  address : Node
  /-- part time (R18) -/
  now : Time
  /-- ports U and D (R8, R14, R15) -/
  port : PerPort PortState
  /-- the forward FIFOs (R28) -/
  fifos : Fifos
  /-- the downstream arbiter (R29, R30) -/
  downstream : Downstream
  /-- the upstream arbiter (R33, R34) -/
  upstream : Upstream
  /-- the table store (R38) -/
  tables : Tables
  /-- the configuration controller (R52) -/
  control : Controller
  /-- the wheel speed unit (R65) -/
  wheel : Row 6 SpeedRecord
  /-- the reference unit (R84) -/
  reference : Reference
  /-- the demand unit (R98, R104, R108, R110, R114, R115) -/
  demand : DemandUnit
  /-- the channel controllers (R118) -/
  chan : Row 6 Channel
  /-- the valve scheduler (R141) -/
  scheduler : Scheduler
  /-- the fault monitor (section 9) -/
  monitor : Monitor
  /-- the management responder (R172) -/
  management : Management
  /-- the status reporter (R169, R170) -/
  reporter : Reporter
  /-- the model's own field: the commands that wait, first in, first out -/
  pending : List Instr
deriving DecidableEq, Repr

/-- The STATUS_NOTICE of the end of a power-on reset (R170, R171): COLD, RED, every channel VACANT, Vref absent. -/
def resetNotice : Notice :=
  { part := .cold, lamp := .red, chans := Row.fill 6 .vacant, vref := none, count := 0, stopHold := false
    standstill := false, overflow := false }

/-- The state right after power-on reset (R17, R18, R36, R40, R64, R66, R85, R98, R119, R141, R163, R169, R170, R172).
The notice placed at the end of the reset has begun transmission, port U being IDLE (R35; log 25). The variant is the
HG6 and the straps read 0: DESIGN CHOICE (log 1, log 2). -/
def State.reset : State :=
  { variant := .hg6
    address := addressOf 0
    now := 0
    port :=
      { u := { rx := .waitIdle
               tx := .sending (originate 0 statusNoticeKind (addressOf 0) 0 (noticePayload resetNotice))
               origin := 1 }
        d := portInitial }
    fifos := { down := [], up := [] }
    downstream := { slots := Row.fill 6 none, lastServed := 5 }
    upstream := { responses := [], notice := none }
    tables := tablesPowerOn
    control := { part := .cold, cause := none, written := false, commit := none, heldOut := Row.fill 6 false }
    wheel := Row.fill 6 speedInitial
    reference := referenceInitial
    demand := demandInitial
    chan := Row.fill 6 (channelInitial .vacant 0)
    scheduler := schedulerInitial
    monitor := monitorInitial
    management := managementInitial
    reporter := { lamp := .red, lampR := true, lampA := false, timer := 100 }
    pending := [] }

end Sys2Proof.Machine
end

