-- ==== Sys2Proof/Machine/Clock.lean ====
section
/-! DEFINITION. The part's own clock: one millisecond of part time passes and the timers that are due put their expiry events
into the queue (R18; log 3, log 4). -/

namespace Sys2Proof.Machine

open Sys2Proof

/-- The event of a timer, where the timer is due. -/
def dueEvent (now : Time) (timer : Option Time) (i : Instr) : List Instr :=
  match due now timer with
  | some _ => [i]
  | none => []

/-- The expiry events of the timers due at `s.now`, in the table's order, and within a row by ascending number (log 4). -/
def dueEvents (s : State) : List Instr :=
  allAxles.flatMap (fun a => dueEvent s.now (s.scheduler.cycle.nth a) (.cycleTimerExpiry a))
  ++ allChans.flatMap (fun c => dueEvent s.now (s.chan.nth c).settleUntil (.settleWindowEnd c))
  ++ allChans.flatMap (fun c => dueEvent s.now (s.wheel.nth c).deadline1 (.wheelDeadline1Expiry c))
  ++ allChans.flatMap (fun c => dueEvent s.now (s.wheel.nth c).deadline2 (.wheelDeadline2Expiry c))
  ++ dueEvent s.now s.reference.timer .standstillTimerExpiry
  ++ dueEvent s.now s.demand.deadline1 .demandDeadline1Expiry
  ++ dueEvent s.now s.demand.deadline2 .demandDeadline2Expiry
  ++ allAxles.flatMap (fun a => dueEvent s.now (s.demand.supply.nth a).timer (.supplyTimerExpiry a))
  ++ allChans.flatMap (fun c => dueEvent s.now (s.chan.nth c).deadline1 (.pressureDeadline1Expiry c))
  ++ allChans.flatMap (fun c => dueEvent s.now (s.chan.nth c).deadline2 (.pressureDeadline2Expiry c))
  ++ allChans.flatMap (fun c => dueEvent s.now (s.chan.nth c).dumpTimer (.dumpTimerExpiry c))
  ++ allChans.flatMap (fun c => dueEvent s.now (s.chan.nth c).zeroTimer (.zeroTimerExpiry c))
  ++ dueEvent s.now s.monitor.quiet.u (.roleValveQuietTimerExpiry .u)
  ++ dueEvent s.now s.monitor.quiet.d (.roleValveQuietTimerExpiry .d)
  ++ dueEvent s.now (some s.reporter.timer) .statusPeriodTimerExpiry

/-- One millisecond of part time passes, wrapping to 0 (R18), and the timers then due have their events queued. -/
def tick (s : State) : State :=
  let s1 := { s with now := s.now + 1 }
  { s1 with pending := s.pending ++ dueEvents s1 }

end Sys2Proof.Machine
end

