-- ==== Sys2Proof/Machine/Operands.lean ====
section
/-! DEFINITION. The operand forms: how the payloads of observed frames are read (R4, R5, R24) and how a request's
arguments are read (R176). -/

namespace Sys2Proof.Machine

open Sys2Proof

/-! ## Payloads of observed frames (R4, R5) -/

/-- A DEMAND payload: demand_a, demand_b, pedal switch. -/
structure DemandPayload where
  a : Nat
  b : Nat
  pedal : Bool
deriving DecidableEq, Repr

/-- Reads a DEMAND payload; any switch byte but 0 is on (R4). -/
def demandPayload : List Byte → Option DemandPayload
  | [a1, a0, b1, b0, s] => some { a := of16 a1 a0, b := of16 b1 b0, pedal := s != 0 }
  | _ => none

/-- A WHEEL_SAMPLE payload: sensor index, edge count, capture. -/
structure WheelPayload where
  index : Byte
  count : Byte
  capture : Nat
deriving DecidableEq, Repr

/-- Reads a WHEEL_SAMPLE payload (R4). -/
def wheelPayload : List Byte → Option WheelPayload
  | [i, n, c1, c0] => some { index := i, count := n, capture := of16 c1 c0 }
  | _ => none

/-- A PRESSURE_SAMPLE payload: valve index, raw pressure, supply where the length is 5. -/
structure PressurePayload where
  index : Byte
  raw : Nat
  supply : Option Nat
deriving DecidableEq, Repr

/-- Reads a PRESSURE_SAMPLE payload (R4). -/
def pressurePayload : List Byte → Option PressurePayload
  | [i, r1, r0] => some { index := i, raw := of16 r1 r0, supply := none }
  | [i, r1, r0, s1, s0] => some { index := i, raw := of16 r1 r0, supply := some (of16 s1 s0) }
  | _ => none

/-- A LOAD_SAMPLE payload: axle, load. -/
structure LoadPayload where
  axle : Nat
  load : Nat
deriving DecidableEq, Repr

/-- Reads a LOAD_SAMPLE payload; a load above 1500 is taken as 1500 (R5). -/
def loadPayload : List Byte → Option LoadPayload
  | [a, l1, l0] => some { axle := a.toNat, load := min 1500 (of16 l1 l0) }
  | _ => none

/-- Reads a DOOR_NOTICE payload: any byte but 0 is open (R4). -/
def doorPayload : List Byte → Option Bool
  | [d] => some (d != 0)
  | _ => none

/-- A NODE_FAULT payload: index, code. -/
structure NodeFaultPayload where
  index : Byte
  code : Byte
deriving DecidableEq, Repr

/-- Reads a NODE_FAULT payload (R4). -/
def nodeFaultPayload : List Byte → Option NodeFaultPayload
  | [i, c] => some { index := i, code := c }
  | _ => none

/-! ## Which channels a frame matches (R24) -/

/-- The channel's present entry has this wheel node and sensor index. -/
def Tables.wheelMatch (t : Tables) (source : Node) (index : Byte) (c : Chan) : Bool :=
  t.mapped c && (t.wheelMap.nth c).wheelNode == source && (t.wheelMap.nth c).sensorIndex.setWidth 8 == index

/-- The channel's present entry has this valve node and valve index. -/
def Tables.valveMatch (t : Tables) (source : Node) (index : Byte) (c : Chan) : Bool :=
  t.mapped c && (t.wheelMap.nth c).valveNode == source && (t.wheelMap.nth c).valveIndex.setWidth 8 == index

/-- The channel a NODE_FAULT concerns: code 3 names a sensor, code 0 either, every other code a valve (R4, R5, R24). -/
def Tables.nodeFaultMatch (t : Tables) (source : Node) (p : NodeFaultPayload) (c : Chan) : Bool :=
  if p.code = 0 then t.wheelMatch source p.index c || t.valveMatch source p.index c
  else if p.code = 3 then t.wheelMatch source p.index c
  else t.valveMatch source p.index c

/-- The axle a LOAD_SAMPLE is copied for: present, its load node not 0 and equal to the source (R25). -/
def Tables.loadAxle (t : Tables) (v : Variant) (source : Node) (axle : Nat) : Option Axle :=
  if t.axlePresentNat v axle && (t.axle.nth (Fin.ofNat 3 axle)).loadNode != 0
      && (t.axle.nth (Fin.ofNat 3 axle)).loadNode == source then
    some (Fin.ofNat 3 axle)
  else none

/-! ## Roles and windows (R21, R26) -/

/-- A management request's source is accepted (R21). -/
def Tables.sourceAccepted (t : Tables) (source : Node) : Bool :=
  t.roles.nth 2 == 0 || t.roles.nth 3 == 0 || source == t.roles.nth 2 || source == t.roles.nth 3

/-- A destination lies within a window; a window whose limit is below its base holds none (R26, R27). -/
def inWindow (w : Window) (dest : Node) : Bool := w.base.toNat ≤ dest.toNat && dest.toNat ≤ w.limit.toNat

/-- The window entries of a direction: 0 to 3 down, 4 to 7 up (R27). -/
def windowEntries : Direction → List (Fin 8)
  | .down => [0, 1, 2, 3]
  | .up => [4, 5, 6, 7]

/-- The destination lies in an enabled window of the direction (R26). -/
def Tables.forwards (t : Tables) (d : Direction) (dest : Node) : Bool :=
  (windowEntries d).any fun i => inWindow (t.forward.nth i) dest

/-! ## Requests (R176) -/

/-- Which completion event a request in service ends with. -/
inductive RequestRow where
  | dirRead
  | tableWrite
  | tableRead
  | commit
  | release
  | partRead
  | channelRead
  | faultRead
  | firstRead
  | faultClear
  | firstClear
  | restoreChannel
  | zero
  | unknown
deriving DecidableEq, Repr

/-- The row of a request: its code with the argument count the code takes, else UNKNOWN. A TABLE_WRITE of two or more
argument bytes goes through the tests of R48, where the count is tested in its place (R176). -/
def requestRow (r : Request) : RequestRow :=
  match r.code.toNat, r.args.length with
  | 1, 1 => .dirRead
  | 2, n => if 2 ≤ n then .tableWrite else .unknown
  | 3, 2 => .tableRead
  | 4, 0 => .commit
  | 5, 0 => .release
  | 6, 0 => .partRead
  | 7, 2 => .channelRead
  | 8, 1 => .faultRead
  | 9, 0 => .firstRead
  | 10, 3 => .faultClear
  | 11, 0 => .firstClear
  | 12, 1 => .restoreChannel
  | 13, 1 => .zero
  | _, _ => .unknown

/-- An argument byte as a number; the count has been tested, so the byte is there. -/
def arg (r : Request) (i : Nat) : Nat := (r.args.getD i 0).toNat

/-- A channel number within the variant's count. -/
def chanOf (v : Variant) (n : Nat) : Option Chan := if n < v.channels then some (Fin.ofNat 6 n) else none

end Sys2Proof.Machine
end

