-- ==== Sys2Proof/Machine/Flags.lean ====
section
/-! DEFINITION. The predicates other blocks read and the flag bytes and read data built from them: what is usable, held
out, fresh; the lamp; STATUS_NOTICE, PART_READ, CHANNEL_READ, FAULT_READ and FIRST_READ data. -/

namespace Sys2Proof.Machine

open Sys2Proof

/-! ## Part and channel predicates -/

/-- SERVICE or DEGRADED: the part modulates (R52). -/
def PartState.modulating : PartState → Bool
  | .service | .degraded => true
  | .cold | .loading | .verify | .backup => false

/-- SERVICE, DEGRADED or BACKUP: committed tables, running timers (R52). -/
def PartState.committed : PartState → Bool
  | .service | .degraded | .backup => true
  | .cold | .loading | .verify => false

/-- No kind is in the set. -/
def LatchSet.isEmpty (l : LatchSet) : Bool :=
  !(l.wheelLost || l.wheelImplausible || l.pressureLost || l.pressureTrack || l.dumpTimeout || l.nodeReported)

/-- A kind joins the set; a kind that cannot take the CHANNEL class is no member (R118). -/
def LatchSet.add (l : LatchSet) : FaultKind → LatchSet
  | .wheelLost => { l with wheelLost := true }
  | .wheelImplausible => { l with wheelImplausible := true }
  | .pressureLost => { l with pressureLost := true }
  | .pressureTrack => { l with pressureTrack := true }
  | .dumpTimeout => { l with dumpTimeout := true }
  | .nodeReported => { l with nodeReported := true }
  | .linkCrc | .linkFormat | .fwdOverrun | .mgmtOverrun | .roleSource | .roleValve | .demandLost | .demandDisagree
  | .supplyLow | .zeroRange => l

/-- The latch byte: bit 0 WHEEL_LOST to bit 5 NODE_REPORTED (R136). -/
def latchByte (l : LatchSet) : Byte :=
  byte (bit l.wheelLost + 2 * bit l.wheelImplausible + 4 * bit l.pressureLost + 8 * bit l.pressureTrack
    + 16 * bit l.dumpTimeout + 32 * bit l.nodeReported)

/-- The channel is held out: a latch or its partner hold stands, and it is not in ZEROING (R61, R118). -/
def Channel.isHeldOut (x : Channel) : Bool :=
  (!x.latch.isEmpty || x.partnerHold) && x.state != .zeroing

/-- The measured pressure is usable: present and not stale (R118). -/
def Channel.usable (x : Channel) : Bool := x.measured.isSome && !x.stale

/-- The speed is usable: present and not stale (R65). -/
def SpeedRecord.usable (x : SpeedRecord) : Bool := x.speed.isSome && !x.stale

/-- The command in a channel's active slot (R141). -/
def SlotPair.activeCommand (p : SlotPair) : Command :=
  match p.active with
  | .a => p.slotA
  | .b => p.slotB

/-- The command in a channel's pending slot (R141). -/
def SlotPair.pendingCommand (p : SlotPair) : Command :=
  match p.active with
  | .a => p.slotB
  | .b => p.slotA

/-! ## The lamp and the notice (R169, R171) -/

/-- The lamp the part state and the fault list give (R169). -/
def deriveLamp (part : PartState) (list : List FaultEntry) : Lamp :=
  match part with
  | .cold | .loading | .verify | .backup => .red
  | .degraded => .amber
  | .service => if list.any fun e => !e.acknowledged then .amber else .off

/-- The reporter showing a lamp: the pins follow at once (R169). -/
def Reporter.show (r : Reporter) (l : Lamp) : Reporter :=
  { r with lamp := l, lampR := l == .red, lampA := l == .amber }

/-- The channel states of a notice, six (R171). -/
def stateRow (chan : Row 6 Channel) : Row 6 ChanState :=
  #v[(chan.nth 0).state, (chan.nth 1).state, (chan.nth 2).state, (chan.nth 3).state, (chan.nth 4).state,
     (chan.nth 5).state]

/-- A STATUS_NOTICE built whole from the state that stands (R171). -/
def buildNotice (s : State) : Notice :=
  { part := s.control.part, lamp := s.reporter.lamp, chans := stateRow s.chan, vref := s.reference.vref
    count := s.monitor.list.length, stopHold := s.demand.stopHold, standstill := s.reference.standstill
    overflow := s.monitor.overflow }

/-! ## Read data (R179 to R183) -/

/-- The fault kind number of the backup cause, 0 for none. -/
def causeNumber (c : Option FaultKind) : Nat :=
  match c with
  | some k => k.number
  | none => 0

/-- The nine data bytes of PART_READ (R179). -/
def partReadData (s : State) : List Byte :=
  [byte (32 * partCode s.control.part + causeNumber s.control.cause)]
  ++ be16 (s.reference.vref.getD 65535)
  ++ [ byte s.monitor.list.length
     , byte (bit s.reference.standstill + 2 * bit s.monitor.first.isSome + 4 * bit s.monitor.overflow
         + 8 * bit s.control.written + 16 * bit s.control.commit.isSome) ]
  ++ be32 s.now

/-- Byte 8 of half 0: the time since dump-since in units of 16 ms, 255 for 4080 ms or more (R180). -/
def dumpAge (now : Time) (since : Option Time) : Nat :=
  match since with
  | some t => min 255 (elapsed now t / 16)
  | none => 0

/-- The nine data bytes of CHANNEL_READ, half 0 (R180). -/
def wheelHalf (s : State) (c : Chan) : List Byte :=
  let x := s.chan.nth c
  let w := s.wheel.nth c
  [byte (16 * chanCode x.state + 8 * bit x.partnerHold + 4 * bit w.stale + 2 * bit w.lost + bit x.dumpSince.isSome)]
  ++ be16 (w.speed.getD 65535)
  ++ beInt16 w.decel
  ++ be16 (16384 * decisionCode (s.reference.decision.nth c) + s.reference.slip.nth c % 1024)
  ++ [latchByte x.latch, byte (dumpAge s.now x.dumpSince)]

/-- Settle-until as a read shows it: absent from the moment part time reaches it, even where the end of the window has not been
taken (R181). -/
def settleShown (now : Time) (settle : Option Time) : Option Time :=
  match settle with
  | some e => if reached now e then none else some e
  | none => none

/-- Byte 8 of half 1: the time to settle-until, 255 for 255 ms or more, 0 when absent (R181). -/
def settleLeft (now : Time) (settle : Option Time) : Nat :=
  match settle with
  | some t => min 255 (elapsed t now)
  | none => 0

/-- The nine data bytes of CHANNEL_READ, half 1 (R181). -/
def pressureHalf (s : State) (c : Chan) : List Byte :=
  let x := s.chan.nth c
  let p := s.scheduler.slots.nth c
  be16 (32768 * bit s.demand.stale + 16384 * bit s.demand.stopHold + s.demand.target.nth c % 1024)
  ++ be16 (x.measured.getD 65535)
  ++ [ byte x.offset, byte p.activeCommand.pulse
     , byte (modeCode p.activeCommand.mode + 4 * bit p.written + 8 * bit x.stale + 16 * bit x.lost
         + 32 * bit (settleShown s.now x.settleUntil).isSome)
     , byte x.trackCount, byte (settleLeft s.now (settleShown s.now x.settleUntil)) ]

/-- The nine data bytes of FAULT_READ (R182). -/
def faultEntryData (e : FaultEntry) : List Byte :=
  [ byte (e.kind.number + 32 * bit e.acknowledged + 64 * bit e.present), byte (locusCode e.locus), byte e.count ]
  ++ be32 e.last
  ++ be16 (min 65535 (elapsed e.last e.first))

/-- The nine data bytes of FIRST_READ (R183). -/
def firstFaultData (f : FirstFault) : List Byte :=
  [byte (f.kind.number + 128 * bit f.header.isSome), byte (locusCode f.locus)]
  ++ be32 f.stamp
  ++ (match f.header with
      | some h => headerBytes h
      | none => [0, 0, 0])

end Sys2Proof.Machine
end

