-- ==== Sys2Proof/Machine/Ops.lean ====
section
/-! DEFINITION. The named operations every block's rules share: one record replaced, the two arbiters, placing answers
and notices, the reporter told of a change, the pending slot, the command slots, the purge and the clearing. -/

namespace Sys2Proof.Machine

open Sys2Proof

/-! ## One record replaced -/

/-- One channel context changed. -/
def State.modifyChan (s : State) (c : Chan) (f : Channel → Channel) : State :=
  { s with chan := s.chan.put c (f (s.chan.nth c)) }

/-- One speed record changed. -/
def State.modifyWheel (s : State) (c : Chan) (f : SpeedRecord → SpeedRecord) : State :=
  { s with wheel := s.wheel.put c (f (s.wheel.nth c)) }

/-- One channel's scheduler slots changed. -/
def State.modifySlots (s : State) (c : Chan) (f : SlotPair → SlotPair) : State :=
  { s with scheduler := { s.scheduler with slots := s.scheduler.slots.put c (f (s.scheduler.slots.nth c)) } }

/-- One axle's supply record changed. -/
def State.modifySupply (s : State) (a : Axle) (f : SupplyRecord → SupplyRecord) : State :=
  { s with demand := { s.demand with supply := s.demand.supply.put a (f (s.demand.supply.nth a)) } }

/-- One port changed. -/
def State.modifyPort (s : State) (p : Port) (f : PortState → PortState) : State :=
  { s with port := s.port.put p (f (s.port.sel p)) }

/-- An operation made for each of a list of channels, in order (ascending in every use; log 13). -/
def forChans (cs : List Chan) (f : Chan → State → State) (s : State) : State := cs.foldl (fun s c => f c s) s

/-! ## The transmitters and the arbiters (R14, R15, R30, R35) -/

/-- A frame begins transmission on a port: the transmitter goes to SENDING (R14). -/
def beginFrame (p : Port) (f : Frame) (s : State) : State :=
  s.modifyPort p fun x => { x with tx := .sending f }

/-- A frame of the part's own begins transmission: it takes the port's origin count, which advances by 1 modulo 16, and
its check is computed (R15). -/
def beginOwn (p : Port) (dest : Node) (kind : BitVec 4) (payload : List Byte) (s : State) : State :=
  s.modifyPort p fun x =>
    { x with tx := .sending (originate dest kind s.address x.origin payload), origin := x.origin + 1 }

/-- The round-robin order: the channel after the one last served, and on past the variant's highest to 0 (R30). -/
def roundRobin (v : Variant) (last : Chan) : List Chan :=
  (List.range v.channels).map fun i => Fin.ofNat 6 ((last.val + 1 + i) % v.channels)

/-- The first channel in round-robin order whose command slot holds a waiting command (R30). -/
def nextCommand (v : Variant) (d : Downstream) : Option (Chan × ValveCommand) :=
  (roundRobin v d.lastServed).findSome? fun c => (d.slots.nth c).map fun x => (c, x)

/-- Port D's arbiter chooses, when the transmitter is IDLE: a waiting command in round-robin order, else the head of the
down FIFO (R30). -/
def chooseDown (s : State) : State :=
  match (s.port.sel .d).tx with
  | .sending _ => s
  | .idle =>
    match nextCommand s.variant s.downstream with
    | some (c, x) =>
      beginOwn .d x.node valveCommandKind (valvePayload x)
        { s with downstream := { slots := s.downstream.slots.put c none, lastServed := c } }
    | none =>
      match s.fifos.down with
      | f :: rest => beginFrame .d f { s with fifos := { s.fifos with down := rest } }
      | [] => s

/-- Port U's arbiter chooses, when the transmitter is IDLE: the head of the response FIFO, which frees its reserved
place (R33, R172), else the status notice, else the head of the up FIFO (R35). -/
def chooseUp (s : State) : State :=
  match (s.port.sel .u).tx with
  | .sending _ => s
  | .idle =>
    match s.upstream.responses with
    | r :: rest =>
      beginOwn .u r.dest mgmtResponseKind (responsePayload r)
        { s with upstream := { s.upstream with responses := rest }
                 management := { s.management with reserved := s.management.reserved - 1 } }
    | [] =>
      match s.upstream.notice with
      | some n =>
        beginOwn .u 0 statusNoticeKind (noticePayload n) { s with upstream := { s.upstream with notice := none } }
      | none =>
        match s.fifos.up with
        | f :: rest => beginFrame .u f { s with fifos := { s.fifos with up := rest } }
        | [] => s

/-! ## Port U: answers and notices (R33, R34) -/

/-- An answer is placed at the tail of the response FIFO, and the arbiter chooses (R33, R35). -/
def placeResponse (r : Response) (s : State) : State :=
  chooseUp { s with upstream := { s.upstream with responses := s.upstream.responses ++ [r] } }

/-- A STATUS_NOTICE built from the state that stands is placed in the status slot, in place of a waiting one, and the
arbiter chooses (R34, R35, R171). -/
def placeNotice (s : State) : State :=
  chooseUp { s with upstream := { s.upstream with notice := some (buildNotice s) } }

/-- The reporter is told of a change of part state: the lamp is derived again, and one notice is placed for the change
(R169, R170). -/
def partStateChanged (s : State) : State :=
  placeNotice { s with reporter := s.reporter.show (deriveLamp s.control.part s.monitor.list) }

/-- The reporter is told of a change to the fault list: a notice is placed if the lamp changes (R169, R170). -/
def faultListChanged (s : State) : State :=
  if deriveLamp s.control.part s.monitor.list = s.reporter.lamp then s
  else placeNotice { s with reporter := s.reporter.show (deriveLamp s.control.part s.monitor.list) }

/-! ## The pending slot (R144) -/

/-- A write: the pending slot takes the command and the written flag is set (R144). -/
def SlotPair.write (p : SlotPair) (x : Command) : SlotPair :=
  match p.active with
  | .a => { p with slotB := x, written := true }
  | .b => { p with slotA := x, written := true }

/-- A withdrawal: the written flag clears and the command is left in place (R144). -/
def SlotPair.withdraw (p : SlotPair) : SlotPair := { p with written := false }

/-- The channel's pending slot takes a command (R144). -/
def writePending (c : Chan) (x : Command) (s : State) : State := s.modifySlots c fun p => p.write x

/-- The channel's pending slot returns to unwritten (R144). -/
def withdrawPending (c : Chan) (s : State) : State := s.modifySlots c SlotPair.withdraw

/-! ## The command slots (R29, R31, R32) -/

/-- A command addressed to the channel's valve node and valve index, as WHEEL_MAP stands (section 2.3). -/
def Tables.addressed (t : Tables) (c : Chan) (x : Command) : ValveCommand :=
  { node := (t.wheelMap.nth c).valveNode, index := (t.wheelMap.nth c).valveIndex, command := x }

/-- A command placed in the channel's command slot, in place of a waiting one (R29). -/
def placeCommand (c : Chan) (x : Command) (s : State) : State :=
  { s with downstream := { s.downstream with slots := s.downstream.slots.put c (some (s.tables.addressed c x)) } }

/-- An entry replacement: in SERVICE, DEGRADED and BACKUP, and only if the slot holds a waiting command (R29). -/
def entryReplacement (c : Chan) (x : Command) (s : State) : State :=
  if s.control.part.committed && (s.downstream.slots.nth c).isSome then chooseDown (placeCommand c x s) else s

/-- The purge: every command slot is emptied and loaded with YIELD 0 for each mapped channel, then the arbiter chooses
if port D is IDLE (R31). -/
def purge (s : State) : State :=
  chooseDown (forChans s.tables.mappedChans (fun c => placeCommand c yieldZero)
    { s with downstream := { s.downstream with slots := Row.fill 6 none } })

/-- The clearing: every command slot is emptied and none is reloaded (R32). -/
def clearing (s : State) : State := { s with downstream := { s.downstream with slots := Row.fill 6 none } }

/-! ## The forward FIFOs (R28) -/

/-- The number of frames a forward FIFO holds at most (R28). -/
def fifoCapacity : Nat := 12

/-- The frames of a direction's FIFO. -/
def Fifos.sel (f : Fifos) : Direction → List Frame
  | .down => f.down
  | .up => f.up

/-- A frame joins the tail of a direction's FIFO, and the arbiter of the far port chooses (R28, R30, R35). -/
def joinFifo (d : Direction) (f : Frame) (s : State) : State :=
  match d with
  | .down => chooseDown { s with fifos := { s.fifos with down := s.fifos.down ++ [f] } }
  | .up => chooseUp { s with fifos := { s.fifos with up := s.fifos.up ++ [f] } }

end Sys2Proof.Machine
end

