-- ==== Sys2Proof/Machine/Control.lean ====
section
/-! DEFINITION. Channel control, targets, held-out reports, latches, the fault monitor and the part state: the operations
of chapters 3, 6, 7 and 9 that act on one another inside one event, each over the ones before it. -/

namespace Sys2Proof.Machine

open Sys2Proof

/-! ## The valve decision (R129, R130) -/

/-- The limits of step 6: below the min pulse CLOSE 0, from the period on pulse 255 (R129). -/
def limitPulse (t : TimingEntry) (m : Mode) (p : Nat) : Command :=
  if p < t.minPulse then closeZero
  else if t.period ≤ p then { mode := m, pulse := 255 }
  else { mode := m, pulse := p }

/-- Steps 2 to 6 of the pressure loop (R129): the command for a target and a measured pressure. -/
def loopCommand (t : TimingEntry) (curve : List (Nat × Nat)) (st : ChanState) (target measured : Nat) : Command :=
  if measured + t.deadband < target then
    let p := interpolate curve (target - measured)
    limitPulse t .fill (if st = .reapply then min p t.reapplyMax else p)
  else if target + t.deadband < measured then
    limitPulse t .vent (interpolate curve (measured - target))
  else closeZero

/-- Step 1 of the pressure loop: settle-until is present and `t` is earlier (R129). A decision in the millisecond of settle-until
itself, taken before the end of the window, is still within it: the end has not made settle-until absent (R132; log 32). -/
def settling (t : Time) (x : Channel) : Bool :=
  match x.settleUntil with
  | some e => !reached t e || t == e
  | none => false

/-- The valve decision of a channel at time `t` (R129). -/
def valveDecision (t : Time) (c : Chan) (s : State) : State :=
  let x := s.chan.nth c
  match x.state with
  | .dump => writePending c ventFull s
  | .follow | .reapply =>
    if settling t x then s
    else
      match x.measured with
      | some m =>
        writePending c (loopCommand (s.tables.timingOf c) (s.tables.valveUsed c) x.state (s.demand.target.nth c) m) s
      | none => s
  | .vacant | .yielded | .hold | .zeroing => s

/-- A changed target is passed to the controller: a FOLLOW or REAPPLY channel with a usable measured pressure makes the
valve decision at once (R130). -/
def targetChange (c : Chan) (s : State) : State :=
  let x := s.chan.nth c
  if (x.state = .follow ∨ x.state = .reapply) ∧ x.usable then valveDecision s.now c s else s

/-! ## Targets (R104 to R113) -/

/-- An axle's effective load: the load sample, else a static load that is not 0, else the x of the last used load point
(R105). -/
def effectiveLoad (s : State) (a : Axle) : Nat :=
  match s.demand.load.nth a with
  | some l => l
  | none =>
    if (s.tables.axle.nth a).staticLoad ≠ 0 then (s.tables.axle.nth a).staticLoad
    else
      match (s.tables.loadUsed a).getLast? with
      | some p => p.1
      | none => Config.emptyCurveLastX

/-- An axle's gain: its load curve at its effective load (R107). -/
def gain (s : State) (a : Axle) : Nat := interpolate (s.tables.loadUsed a) (effectiveLoad s a)

/-- Step 1: the base (R110). -/
def targetBase (s : State) (a : Axle) : Nat :=
  match s.demand.demand with
  | some d => d * (s.tables.axle.nth a).pFull * gain s a / 1000000
  | none => 0

/-- Step 2: stop hold raises the value to the axle's own (R110). -/
def withStopHold (s : State) (a : Axle) (v : Nat) : Nat :=
  if s.demand.stopHold ∧ (s.tables.aux.nth a).stopHold ≠ 0 then max v (s.tables.aux.nth a).stopHold else v

/-- Step 4: the supply limit, where the axle's supply is present (R110). -/
def withSupply (s : State) (a : Axle) (v : Nat) : Nat :=
  match (s.demand.supply.nth a).supply with
  | some p => min v (p - (s.tables.aux.nth a).supplyMargin)
  | none => v

/-- The state is DUMP, HOLD or REAPPLY: the wheel is under slip control (R111). -/
def ChanState.slipControl : ChanState → Bool
  | .dump | .hold | .reapply => true
  | .vacant | .yielded | .follow | .zeroing => false

/-- Step 5: the yaw limit (R111). -/
def withYaw (s : State) (c : Chan) (v : Nat) : Nat :=
  if (s.tables.axle.nth (s.tables.axleOf c)).pair = .yawLimit then
    match s.tables.otherChannel c with
    | some o =>
      if (s.chan.nth o).state.slipControl then
        match (s.chan.nth o).measured with
        | some m => min v (m + (s.tables.aux.nth (s.tables.axleOf c)).yawMargin)
        | none => v
      else v
    | none => v
  else v

/-- The target of a mapped channel in SERVICE and DEGRADED, steps 1 to 5 (R110). -/
def targetValue (s : State) (c : Chan) : Nat :=
  let a := s.tables.axleOf c
  withYaw s c (withSupply s a (min (withStopHold s a (targetBase s a)) (s.tables.axle.nth a).pMax))

/-- One channel's target stored. -/
def setTarget (c : Chan) (v : Nat) (s : State) : State :=
  { s with demand := { s.demand with target := s.demand.target.put c v } }

/-- One channel's target computed and, if it has changed, passed to its controller (R113). -/
def retarget (c : Chan) (s : State) : State :=
  if s.demand.target.nth c = targetValue s c then s else targetChange c (setTarget c (targetValue s c) s)

/-- A recomputation for a list of mapped channels, in SERVICE and DEGRADED (R110, R113). -/
def recompute (cs : List Chan) (s : State) : State :=
  if s.control.part.modulating then forChans cs retarget s else s

/-- A recomputation for every mapped channel (R113). -/
def recomputeAll (s : State) : State := recompute s.tables.mappedChans s

/-- Every target becomes 0, at the entry into BACKUP, LOADING or VERIFY (R113). No channel is then in FOLLOW or REAPPLY, so
no controller writes on it (R130). -/
def zeroTargets (s : State) : State := { s with demand := { s.demand with target := Row.fill 6 0 } }

/-- The demand unit is told of the channel's new state or measured pressure: under YAW_LIMIT the other channel's target is
recomputed (R112). -/
def notifyDemand (c : Chan) (s : State) : State :=
  if (s.tables.axle.nth (s.tables.axleOf c)).pair = .yawLimit then
    match s.tables.otherChannel c with
    | some o => recompute [o] s
    | none => s
  else s

/-! ## Entering a state (R121) -/

/-- What an entry does to the channel context: the dump timer starts or stops, the track check is dropped (R121). -/
def entryContext (st : ChanState) (now : Time) (maxDump : Nat) (x : Channel) : Channel :=
  let y := if x.state = .dump then { x with dumpTimer := none } else x
  match st with
  | .dump => { y with state := st, dumpSince := some now, dumpTimer := some (after now maxDump) }
  | .yielded | .zeroing => { y with state := st, trackRef := none, trackCount := 0 }
  | .vacant | .follow | .hold | .reapply => { y with state := st }

/-- The entry command of a state; FOLLOW and REAPPLY have none and VACANT writes nothing (R120, R121). -/
def entryCommand : ChanState → Option Command
  | .dump => some ventFull
  | .hold => some closeZero
  | .yielded | .zeroing => some yieldZero
  | .follow | .reapply | .vacant => none

/-- The entry's effect on the channel's slots: its entry command is written and replaces a waiting one, or the pending slot
returns to unwritten (R121). -/
def entrySlots (c : Chan) (st : ChanState) (s : State) : State :=
  match entryCommand st with
  | some x => entryReplacement c x (writePending c x s)
  | none => if st = .vacant then s else withdrawPending c s

/-- A channel enters a state. An entry into the state it is already in is no change: it writes and passes nothing (R121). -/
def enterState (c : Chan) (st : ChanState) (s : State) : State :=
  if (s.chan.nth c).state = st then s
  else
    notifyDemand c
      (entrySlots c st (s.modifyChan c (entryContext st s.now (s.tables.timingOf c).maxDump)))

/-! ## The held-out set (R61, R135) -/

/-- The configuration controller moves between SERVICE and DEGRADED by the held-out set (R61). -/
def settlePart (s : State) : State :=
  match s.control.part with
  | .service =>
    if allChans.any s.control.heldOut.nth then
      partStateChanged { s with control := { s.control with part := .degraded } }
    else s
  | .degraded =>
    if allChans.any s.control.heldOut.nth then s
    else partStateChanged { s with control := { s.control with part := .service } }
  | .cold | .loading | .verify | .backup => s

/-- The channel reports whether it is held out; only a change is a report (R135). -/
def holdReport (c : Chan) (s : State) : State :=
  let h := s.tables.mapped c && (s.chan.nth c).isHeldOut
  if s.control.heldOut.nth c = h then s
  else settlePart { s with control := { s.control with heldOut := s.control.heldOut.put c h } }

/-! ## Leaving YIELDED (R122), partner holds (R134), aborting a calibration (R140) -/

/-- All that R122 asks of a channel in YIELDED. -/
def mayFollow (c : Chan) (s : State) : Bool :=
  (s.chan.nth c).state == .yielded && s.control.part.modulating && (s.chan.nth c).latch.isEmpty
    && !(s.chan.nth c).partnerHold && (s.wheel.nth c).usable && (s.chan.nth c).usable

/-- The test of R122: a YIELDED channel that passes enters FOLLOW. -/
def leaveYielded (c : Chan) (s : State) : State := if mayFollow c s then enterState c .follow s else s

/-- A mapped channel's partner hold is to be set: its axle's fallback mode is TOGETHER and some other mapped channel of the
axle has a latch set that is not empty (R134). -/
def partnerWanted (s : State) (c : Chan) : Bool :=
  s.tables.mapped c && (s.tables.axle.nth (s.tables.axleOf c)).fallback == .together
    && (s.tables.chansOf (s.tables.axleOf c)).any fun o => o != c && !(s.chan.nth o).latch.isEmpty

/-- One channel's partner hold evaluated again (R134): set, it takes a controlling channel to YIELDED; cleared, the test of
R122 is made. The held-out report is made at either change (R135). -/
def evaluateHold (c : Chan) (s : State) : State :=
  let want := partnerWanted s c
  if (s.chan.nth c).partnerHold = want then s
  else
    let s1 := s.modifyChan c fun x => { x with partnerHold := want }
    if want then
      match (s.chan.nth c).state with
      | .follow | .dump | .hold | .reapply => holdReport c (enterState c .yielded s1)
      | .vacant | .yielded | .zeroing => holdReport c s1
    else leaveYielded c (holdReport c s1)

/-- The partner holds of an axle's mapped channels evaluated again (R134). -/
def evaluateHolds (a : Axle) (s : State) : State := forChans (s.tables.chansOf a) evaluateHold s

/-- An abort (R140): the zero timer stops, the accumulator becomes absent, the offset stands, ABORTED is placed for the zero
request, and the channel enters YIELDED. -/
def abortZero (c : Chan) (s : State) : State :=
  let s1 := s.modifyChan c fun x => { x with zeroTimer := none, zeroAcc := none, zeroRequest := none }
  let s2 :=
    match (s.chan.nth c).zeroRequest with
    | some q => placeResponse { dest := q.source, code := 13, tag := q.tag, result := .aborted, data := [] } s1
    | none => s1
  enterState c .yielded s2

/-- A channel in ZEROING aborts its calibration, and the held-out report is made as it leaves (R135, R139). -/
def abortIfZeroing (c : Chan) (s : State) : State :=
  if (s.chan.nth c).state = .zeroing then holdReport c (abortZero c s) else s

/-- A channel is taken to YIELDED: a calibration in progress is aborted, any other state is left (R123, R133). -/
def yieldChannel (c : Chan) (s : State) : State :=
  if (s.chan.nth c).state = .zeroing then abortZero c s else enterState c .yielded s

/-! ## The classes' actions (R62, R133) -/

/-- A CHANNEL-class action (R133): in SERVICE, DEGRADED and BACKUP, for a mapped channel, the kind joins the latch set, the
channel yields, the axle's partner holds are evaluated again and the held-out report is made (log 11). -/
def channelAction (k : FaultKind) (c : Chan) (s : State) : State :=
  if s.control.part.committed && s.tables.mapped c then
    holdReport c
      (evaluateHolds (s.tables.axleOf c)
        (yieldChannel c (s.modifyChan c fun x => { x with latch := x.latch.add k })))
  else s

/-- On entry into BACKUP a mapped channel enters YIELDED, except one in ZEROING (R62, R123). -/
def yieldUnlessZeroing (c : Chan) (s : State) : State :=
  if (s.chan.nth c).state = .zeroing then s else enterState c .yielded s

/-- A PART-class action (R62): from SERVICE or DEGRADED the part enters BACKUP, with the kind as backup cause. -/
def partAction (k : FaultKind) (s : State) : State :=
  if s.control.part.modulating then
    let s1 := purge { s with control := { s.control with part := .backup, cause := some k } }
    partStateChanged (zeroTargets (forChans s.tables.mappedChans yieldUnlessZeroing s1))
  else s

/-! ## The fault monitor (R158 to R165) -/

/-- The number of entries the fault list holds at most (R163). -/
def faultListCapacity : Nat := 16

/-- The entry of that kind and locus. -/
def FaultEntry.isFor (e : FaultEntry) (k : FaultKind) (l : Locus) : Bool := e.kind == k && e.locus == l

/-- A new entry for a report (R164). -/
def newEntry (r : FaultReport) : FaultEntry :=
  { kind := r.kind, locus := r.locus, first := r.time, last := r.time, count := 1, acknowledged := false
    present := r.kind.isCondition }

/-- A repeat (R164): the count rises to at most 255, the last stamp is the report's time, the acknowledged flag clears. -/
def repeatEntry (r : FaultReport) (e : FaultEntry) : FaultEntry :=
  { e with last := r.time, count := min 255 (e.count + 1), acknowledged := false
           present := e.present || r.kind.isCondition }

/-- What recording a report makes of the list. -/
structure Recorded where
  list : List FaultEntry
  created : Bool
  refused : Bool
deriving DecidableEq, Repr

/-- The report recorded (R164, R165): a repeat, a new entry at the tail, a new entry in the room of a removed NOTED one, or a
refusal. An entry's class is the one its kind holds in POLICY now. -/
def recordFault (t : Tables) (list : List FaultEntry) (r : FaultReport) : Recorded :=
  let noted := fun (e : FaultEntry) => (t.policyOf e.kind).cls == .noted
  let joined := fun (l : List FaultEntry) => { list := l ++ [newEntry r], created := true, refused := false : Recorded }
  if list.any fun e => e.isFor r.kind r.locus then
    { list := list.map fun e => if e.isFor r.kind r.locus then repeatEntry r e else e, created := false, refused := false }
  else if list.length < faultListCapacity then joined list
  else if list.any fun e => e.acknowledged && noted e then joined (list.eraseP fun e => e.acknowledged && noted e)
  else if (t.policyOf r.kind).cls ≠ .noted ∧ list.any noted then joined (list.eraseP noted)
  else { list := list, created := false, refused := true }

/-- The quiet timer of a ROLE_VALVE report's port is re-armed (R160). -/
def rearmQuiet (r : FaultReport) (s : State) : State :=
  match r.kind, r.locus with
  | .roleValve, .port p =>
    { s with monitor := { s.monitor with quiet := s.monitor.quiet.put p (some (after r.time 1000)) } }
  | _, _ => s

/-- The action of a class handed on (R159). -/
def classAction (cls : FaultClass) (r : FaultReport) (s : State) : State :=
  match cls with
  | .noted => s
  | .channel =>
    match r.locus with
    | .channel c => channelAction r.kind c s
    | .none | .port _ | .direction _ | .axle _ => s
  | .part => partAction r.kind s

/-- The first-fault record after a report (R166): filled by the report that creates an entry while it is absent. -/
def firstFault (created : Bool) (r : FaultReport) (f : Option FirstFault) : Option FirstFault :=
  match f with
  | some x => some x
  | none =>
    if created then some { kind := r.kind, locus := r.locus, stamp := r.time, header := r.header } else none

/-- The monitor with a report recorded: the list, the first-fault record and the overflow flag (R164 to R166). -/
def recordInMonitor (t : Tables) (r : FaultReport) (m : Monitor) : Monitor :=
  let x := recordFault t m.list r
  { m with list := x.list, first := firstFault x.created r m.first, overflow := m.overflow || x.refused }

/-- A report reaches the fault monitor (R158): the quiet timer, the policy, the list, the first-fault record, the class's
action, and the reporter if the list changed. A masked NOTED report changes nothing but the quiet timer. -/
def report (r : FaultReport) (s : State) : State :=
  let s1 := rearmQuiet r s
  let p := s.tables.policyOf r.kind
  if p.cls = .noted ∧ p.mask then s1
  else
    let s2 := { s1 with monitor := recordInMonitor s.tables r s1.monitor }
    let s3 := classAction p.cls r s2
    if (recordFault s.tables s1.monitor.list r).refused then s3 else faultListChanged s3

/-- An owner tells the monitor that a condition has ended: the entry's condition-present flag clears (R162). -/
def endCondition (k : FaultKind) (l : Locus) (s : State) : State :=
  { s with
    monitor :=
      { s.monitor with
        list := s.monitor.list.map fun e => if e.isFor k l then { e with present := false } else e } }

/-- The channel's WHEEL_LOST condition ends, if it is present (R80). -/
def endWheelLost (c : Chan) (s : State) : State :=
  if (s.wheel.nth c).lost then
    endCondition .wheelLost (.channel c) (s.modifyWheel c fun x => { x with lost := false })
  else s

/-- The channel's PRESSURE_LOST condition ends, if it is present (R127, R131). -/
def endPressureLost (c : Chan) (s : State) : State :=
  if (s.chan.nth c).lost then
    endCondition .pressureLost (.channel c) (s.modifyChan c fun x => { x with lost := false })
  else s

/-- The owner's answer to whether a condition is present (R162). An event kind has none. -/
def conditionPresent (s : State) (k : FaultKind) (l : Locus) : Bool :=
  match k, l with
  | .roleValve, .port p => (s.monitor.quiet.sel p).isSome
  | .demandLost, .none => s.demand.lost
  | .wheelLost, .channel c => (s.wheel.nth c).lost
  | .pressureLost, .channel c => (s.chan.nth c).lost
  | .nodeReported, .channel c => s.monitor.node.nth c
  | .supplyLow, .axle a => (s.demand.supply.nth a).low
  | _, _ => false

/-! ## Changes of part state (R54, R57, R59) -/

/-- Every cycle timer stops (R142). -/
def stopCycles (s : State) : State :=
  { s with scheduler := { s.scheduler with cycle := Row.fill 3 none } }

/-- The demand deadlines stop, every supply becomes absent and its timer stops; the stale flag, the lost condition and the
low conditions are kept (R102, R108). -/
def closeDemand (s : State) : State :=
  let stop := fun (r : SupplyRecord) => { r with supply := none, timer := none }
  let d := { s.demand with deadline1 := none, deadline2 := none }
  zeroTargets
    { s with
      demand :=
        { d with
          supply := #v[stop (d.supply.nth 0), stop (d.supply.nth 1), stop (d.supply.nth 2)] } }

/-- What the entry into LOADING does to a channel's context besides YIELDED (R123). -/
def channelClosed (x : Channel) : Channel :=
  { x with deadline1 := none, deadline2 := none, dumpTimer := none, stale := true, settleUntil := none }

/-- What the entry into LOADING does to a speed record (R68). -/
def speedClosed (x : SpeedRecord) : SpeedRecord := { x with deadline1 := none, deadline2 := none, stale := true }

/-- The entry into LOADING (R54, R68, R102, R108, R113, R123, R142). -/
def enterLoading (s : State) : State :=
  let s1 := purge { s with control := { s.control with part := .loading } }
  let s2 := forChans s.tables.mappedChans yieldChannel s1
  let s3 := forChans allChans (fun c s => (s.modifyChan c channelClosed).modifyWheel c speedClosed) s2
  let s4 := forChans s.tables.mappedChans holdReport s3
  partStateChanged (stopCycles (closeDemand s4))

/-- What the entry into VERIFY does to a channel's context besides YIELDED (R123). -/
def channelVerified (x : Channel) : Channel :=
  { x with latch := latchEmpty, partnerHold := false, measured := none, stamp := none, stale := true, deadline1 := none
           deadline2 := none, settleUntil := none }

/-- What the entry into VERIFY does to a speed record (R68). -/
def speedVerified (x : SpeedRecord) : SpeedRecord :=
  { x with base := none, speed := none, decel := 0, lastEdge := none, stale := true, deadline1 := none, deadline2 := none }

/-- The entry into VERIFY with its commit in flight (R57, R68, R85, R102, R108, R113, R123, R142). -/
def enterVerify (k : CommitInFlight) (s : State) : State :=
  let s0 := { s with control := { s.control with part := .verify, commit := some k } }
  let s1 := if k.origin = .backup then clearing s0 else s0
  let s2 := { stopCycles s1 with reference := referenceInitial }
  let s3 := forChans s.tables.mappedChans yieldChannel s2
  let s4 := forChans allChans (fun c s => (s.modifyChan c channelVerified).modifyWheel c speedVerified) s3
  let s5 := forChans allChans holdReport s4
  partStateChanged (closeDemand s5)

end Sys2Proof.Machine
end

