-- ==== Sys2Proof/Machine/Demand.lean ====
section
/-! DEFINITION. The demand unit's events (ch. 6): an accepted DEMAND, a door notice, a load sample, a supply value, and the
beginning of standstill. -/

namespace Sys2Proof.Machine

open Sys2Proof

/-- The disagreement tests of R100 on the clamped values. -/
def disagrees (a b : Nat) (pedal : Bool) : Bool :=
  60 < max a b - min a b || (pedal && a < 20 && b < 20) || (!pedal && (100 < a || 100 < b))

/-- The DEMAND_LOST condition ends, if it is present (R99, step 6). -/
def endDemandLost (s : State) : State :=
  if s.demand.lost then endCondition .demandLost .none { s with demand := { s.demand with lost := false } } else s

/-- Both demand deadlines armed from a time (R99, R102). -/
def armDemand (t : Time) (fresh : Nat) (d : DemandUnit) : DemandUnit :=
  { d with deadline1 := some (after t fresh), deadline2 := some (after t (3 * fresh)) }

/-- Steps 2 and 3 of an accepted DEMAND: the demand is stored and a disagreement is reported once, in SERVICE, DEGRADED and
BACKUP (R99, R100; log 17). -/
def storeDemand (p : DemandPayload) (t : Time) (h : Header) (s : State) : State :=
  let a := clamp 0 1000 p.a
  let b := clamp 0 1000 p.b
  let s1 := { s with demand := { s.demand with demand := some (max a b) } }
  if s.control.part.committed && disagrees a b p.pedal then
    report { kind := .demandDisagree, locus := .none, time := t, header := some h } s1
  else s1

/-- Steps 4 to 7 of an accepted DEMAND (R99). -/
def refreshDemand (t : Time) (h : Header) (s : State) : State :=
  let s1 :=
    endDemandLost
      { s with demand := { s.demand with lastSeq := some h.sequence, stamp := some t, stale := false } }
  if s1.control.part.committed then { s1 with demand := armDemand t s1.tables.demandFresh s1.demand } else s1

/-- Step 8 of an accepted DEMAND: a demand of 20 or more aborts every calibration (R99, R139). -/
def demandNotice (s : State) : State :=
  match s.demand.demand with
  | some d => if 20 ≤ d then forChans allChans abortIfZeroing s else s
  | none => s

/-- A DEMAND copy accepted (R99). -/
def acceptDemand (p : DemandPayload) (t : Time) (h : Header) (s : State) : State :=
  recomputeAll (demandNotice (refreshDemand t h (storeDemand p t h s)))

/-- At least one present axle has a stop hold that is not 0 (R115). -/
def anyStopHold (t : Tables) : Bool := allAxles.any fun a => t.axlePresent a && (t.aux.nth a).stopHold != 0

/-- Stop hold becomes active or inactive; a change recomputes the targets (R113, R115). -/
def setStopHold (b : Bool) (s : State) : State :=
  if s.demand.stopHold = b then s else recomputeAll { s with demand := { s.demand with stopHold := b } }

/-- A DOOR_NOTICE copy (R114, R115). -/
def doorNotice (isOpen : Bool) (s : State) : State :=
  let s1 := { s with demand := { s.demand with doorOpen := isOpen } }
  if isOpen then if s1.reference.standstill && anyStopHold s1.tables then setStopHold true s1 else s1
  else setStopHold false s1

/-- The demand unit told that standstill begins (R90, R115). -/
def standstillBegins (s : State) : State :=
  if s.demand.doorOpen && anyStopHold s.tables then setStopHold true s else s

/-- A LOAD_SAMPLE copy for an axle (R104). -/
def loadSample (a : Axle) (l : Nat) (s : State) : State :=
  recompute (s.tables.chansOf a) { s with demand := { s.demand with load := s.demand.load.put a (some l) } }

/-- The test of a supply value against the axle's supply warn (R109). -/
def supplyTest (a : Axle) (v : Nat) (t : Time) (h : Header) (s : State) : State :=
  let warn := (s.tables.aux.nth a).supplyWarn
  if (s.demand.supply.nth a).low then
    if warn ≤ v then endCondition .supplyLow (.axle a) (s.modifySupply a fun r => { r with low := false }) else s
  else if v < warn then
    report { kind := .supplyLow, locus := .axle a, time := t, header := some h }
      (s.modifySupply a fun r => { r with low := true })
  else s

/-- A supply value for an axle (R108): discarded in COLD, LOADING and VERIFY. -/
def supplyValue (a : Axle) (v : Nat) (t : Time) (h : Header) (s : State) : State :=
  if s.control.part.committed then
    let s1 := s.modifySupply a fun r => { r with supply := some v, timer := some (after t 1000) }
    let s2 := supplyTest a v t h s1
    recompute (s2.tables.chansOf a) s2
  else s

end Sys2Proof.Machine
end

