-- ==== Sys2Proof/Machine/Management.lean ====
section
/-! DEFINITION. The request queue and the responder (sections 10.1, 10.2): the offer of a request, the taking of the head, the
completion of a service. -/

namespace Sys2Proof.Machine

open Sys2Proof

/-- The number of requests the queue holds at most (R172). -/
def queueCapacity : Nat := 4

/-- The number of response places (R33). -/
def responsePlaces : Nat := 12

/-- An IDLE responder takes the head of a queue that is not empty and goes to SERVING (R175). -/
def Management.take (m : Management) : Management :=
  match m.responder, m.queue with
  | .idle, r :: rest => { m with responder := .serving r, queue := rest }
  | _, _ => m

/-- A request joins the tail and reserves a response place (R173). -/
def Management.accept (m : Management) (r : Request) : Management :=
  ({ m with queue := m.queue ++ [r], reserved := m.reserved + 1 } : Management).take

/-- A request the sorter offers (R173): accepted while the queue holds fewer than 4 and fewer than 12 places are reserved; else
refused, and MGMT_OVERRUN is reported. -/
def offerRequest (r : Request) (t : Time) (h : Header) (s : State) : State :=
  if s.management.queue.length < queueCapacity ∧ s.management.reserved < responsePlaces then
    { s with management := s.management.accept r }
  else report { kind := .mgmtOverrun, locus := .none, time := t, header := some h } s

/-- The end of a service (R175): the responder goes to IDLE and takes the next head if there is one. -/
def finishService (s : State) : State :=
  { s with management := ({ s.management with responder := .idle } : Management).take }

/-- An answer to a request (R176): to its source, with its code and tag. -/
def answerOf (r : Request) (result : ResultCode) (data : List Byte) : Response :=
  { dest := r.source, code := r.code, tag := r.tag, result := result, data := data }

/-- A request answered at the completion of its service: the answer is placed and the responder goes on (R175). -/
def answer (r : Request) (result : ResultCode) (data : List Byte) (s : State) : State :=
  finishService (placeResponse (answerOf r result data) s)

/-- The completion of the service of the request in service, where it is one of that row; where the responder is IDLE or serves
another row's request, the event cannot occur and nothing changes (R175, R176; log 5). -/
def completeService (row : RequestRow) (f : Request → State → State) (s : State) : State :=
  match s.management.responder with
  | .serving r => if requestRow r = row then f r s else s
  | .idle => s

end Sys2Proof.Machine
end

