-- ==== Sys2Proof/Machine/Pressure.lean ====
section
/-! DEFINITION. The channel controller's pressure side (sections 7.3, 7.4) and the boundary of the valve scheduler (ch. 8). -/

namespace Sys2Proof.Machine

open Sys2Proof

/-- Both pressure deadlines armed from a time (R123, R127). -/
def armPressure (t : Time) (fresh : Nat) (x : Channel) : Channel :=
  { x with deadline1 := some (after t fresh), deadline2 := some (after t (3 * fresh)) }

/-- Step 1: in ZEROING the raw pressure joins the sum and the count rises by 1 (R127, R138). -/
def accumulate (raw : Nat) (x : Channel) : Channel :=
  match x.zeroAcc with
  | some z => if x.state = .zeroing then { x with zeroAcc := some { z with sum := z.sum + raw, count := z.count + 1 } } else x
  | none => x

/-- Steps 1 to 3 of a pressure sample (R127): the accumulator, the measured pressure, the stamp, the deadlines. -/
def storePressure (raw : Nat) (t : Time) (fresh : Nat) (x : Channel) : Channel :=
  let y := accumulate raw x
  armPressure t fresh { y with measured := some (clamp 0 1500 (raw - y.offset)), stamp := some t, stale := false }

/-- Step 7 of a pressure sample: a channel in REAPPLY whose measured pressure is at least its target less the deadband enters
FOLLOW (R128). -/
def reapplyTest (c : Chan) (s : State) : State :=
  let x := s.chan.nth c
  match x.measured with
  | some m =>
    if x.state = .reapply ∧ s.demand.target.nth c ≤ m + (s.tables.timingOf c).deadband then enterState c .follow s else s
  | none => s

/-- A PRESSURE_SAMPLE copy for channel c (R127). -/
def pressureSample (c : Chan) (raw : Nat) (t : Time) (s : State) : State :=
  if s.control.part.committed then
    let s1 := endPressureLost c (s.modifyChan c (storePressure raw t s.tables.pressureFresh))
    valveDecision t c (reapplyTest c (leaveYielded c (notifyDemand c s1)))
  else endPressureLost c (s.modifyChan c fun x => { x with stamp := some t })

/-! ## The boundary (R145 to R147) -/

/-- The repeat command of a channel's state (R145). VACANT, which no mapped channel is in, is taken with the states that the
part has given up. -/
def repeatCommand : ChanState → Command
  | .dump => ventFull
  | .yielded | .zeroing | .vacant => yieldZero
  | .follow | .hold | .reapply => closeZero

/-- The slots after a boundary (R145): a written pending slot becomes the active one; else the active slot is loaded with the
repeat command. -/
def SlotPair.boundary (p : SlotPair) (st : ChanState) : SlotPair :=
  if p.written then { p with active := (match p.active with | .a => .b | .b => .a), written := false }
  else
    match p.active with
    | .a => { p with slotA := repeatCommand st }
    | .b => { p with slotB := repeatCommand st }

/-- The settle-until a command opens at a boundary (R146): FILL and VENT alone open a window. -/
def settleFor (t : TimingEntry) (b : Time) (x : Command) : Option Time :=
  match x.mode with
  | .fill | .vent => some (after b ((if x.pulse = 255 then t.period else x.pulse) + t.lag))
  | .close | .yield => none

/-- The controller handed an activated command and its window (R132, R146): FILL starts or continues the track check, VENT
drops it, CLOSE and YIELD change nothing. -/
def activation (t : TimingEntry) (b : Time) (x : Command) (k : Channel) : Channel :=
  match x.mode with
  | .fill =>
    { k with settleUntil := settleFor t b x
             trackRef := match k.trackRef with
               | some r => some r
               | none => k.measured }
  | .vent => { k with settleUntil := settleFor t b x, trackRef := none }
  | .close | .yield => k

/-- A mapped channel's part of a boundary: its active command chosen, its settle window opened, the command emitted
(R145, R146, R147). -/
def boundaryOf (b : Time) (c : Chan) (s : State) : State :=
  let p := (s.scheduler.slots.nth c).boundary (s.chan.nth c).state
  let x := p.activeCommand
  placeCommand c x
    ((s.modifySlots c fun _ => p).modifyChan c (activation (s.tables.timingOf c) b x))

/-- A boundary of an axle at time b: every mapped channel of the axle, then the arbiter chooses (R142, R145 to R147, R30). -/
def boundary (a : Axle) (b : Time) (s : State) : State :=
  let s1 :=
    { s with
      scheduler := { s.scheduler with cycle := s.scheduler.cycle.put a (some (after b (s.tables.timing.nth a).period)) } }
  chooseDown (forChans (s1.tables.chansOf a) (boundaryOf b) s1)

/-! ## The track check (R132) -/

/-- The track count after a check: 0 if the pressure has risen by 5 or more, else one more (R132). -/
def trackResult (reference : Nat) (measured : Option Nat) (count : Nat) : Nat :=
  match measured with
  | some m => if reference + 5 ≤ m then 0 else count + 1
  | none => count + 1

/-- The end of a settle window (R132): settle-until becomes absent; in FOLLOW or REAPPLY a standing track reference is checked,
and the eighth unanswered fill reports PRESSURE_TRACK. -/
def windowEnd (c : Chan) (t : Time) (s : State) : State :=
  let x := s.chan.nth c
  let clear := fun (n : Nat) => s.modifyChan c fun y => { y with settleUntil := none, trackRef := none, trackCount := n }
  match x.trackRef with
  | none => s.modifyChan c fun y => { y with settleUntil := none }
  | some r =>
    if x.state = .follow ∨ x.state = .reapply then
      let n := trackResult r x.measured x.trackCount
      if 8 ≤ n then report { kind := .pressureTrack, locus := .channel c, time := t, header := none } (clear 0)
      else clear n
    else clear x.trackCount

end Sys2Proof.Machine
end

