-- ==== Sys2Proof/Machine/CommitCommands.lean ====
section
/-! DEFINITION. The commit and release commands: COMMIT, RELEASE and the completion of the commit check (R55 to R63). -/

namespace Sys2Proof.Machine

open Sys2Proof

/-- The backup cause's condition is present (R63). -/
def causePresent (s : State) : Bool :=
  match s.control.cause with
  | some .demandLost => s.demand.lost
  | some .roleValve => s.monitor.quiet.u.isSome || s.monitor.quiet.d.isSome
  | _ => false

/-- A COMMIT accepted: it becomes the commit in flight, the part enters VERIFY, and the responder goes on without an answer
(R56, R57, R177). -/
def acceptCommit (origin : CommitOrigin) (r : Request) (s : State) : State :=
  finishService (enterVerify { origin := origin, request := { source := r.source, tag := r.tag } } s)

/-- COMMIT by part state (R56). -/
def commitRequest (r : Request) (s : State) : State :=
  match s.control.part with
  | .loading => acceptCommit .loading r s
  | .backup =>
    if !s.reference.standstill then answer r .moving [] s
    else if causePresent s then answer r .causePresent [] s
    else acceptCommit .backup r s
  | .cold | .verify | .service | .degraded => answer r .state [] s

/-- COMMIT: the completion of the service of a COMMIT (R56). -/
def execCommit (s : State) : Host.Outcome State Fault Refusal := .next (completeService .commit commitRequest s)

/-- RELEASE by part state (R55). -/
def releaseRequest (r : Request) (s : State) : State :=
  match s.control.part with
  | .service | .degraded | .backup =>
    if s.reference.standstill then answer r .ok [] (enterLoading s) else answer r .moving [] s
  | .loading => answer r .ok [] s
  | .cold | .verify => answer r .state [] s

/-- RELEASE: the completion of the service of a RELEASE (R55). -/
def execRelease (s : State) : Host.Outcome State Fault Refusal := .next (completeService .release releaseRequest s)

/-- The cycle timers at a passing commit: each present axle's expires one period later, the others are stopped (R142). -/
def startCycle (t : Tables) (c : Time) (a : Axle) : Option Time :=
  if t.axlePresent a then some (after c (t.timing.nth a).period) else none

/-- The scheduler at a passing commit: every slot at its reset value, then the timers (R153). -/
def schedulerAtCommit (t : Tables) (c : Time) : Scheduler :=
  { cycle := #v[startCycle t c 0, startCycle t c 1, startCycle t c 2], slots := Row.fill 6 slotsInitial }

/-- The deadlines of a mapped channel at a passing commit (R68, R123). -/
def armChannel (t : Time) (c : Chan) (s : State) : State :=
  (s.modifyWheel c fun x =>
      { x with deadline1 := some (after t s.tables.wheelFresh), deadline2 := some (after t (3 * s.tables.wheelFresh)) }).modifyChan
    c (armPressure t s.tables.pressureFresh)

/-- NODE_REPORTED raised at a passing commit for a channel whose node-reported condition is present (R161). -/
def raiseNodeReported (t : Time) (c : Chan) (s : State) : State :=
  if s.monitor.node.nth c then
    report { kind := .nodeReported, locus := .channel c, time := t, header := none } s
  else s

/-- A deferred COMMIT's answer (R59). -/
def commitAnswer (k : CommitInFlight) (result : ResultCode) (data : List Byte) : Response :=
  { dest := k.request.source, code := 4, tag := k.request.tag, result := result, data := data }

/-- A passing completion (R59, R68, R102, R113, R123, R142, R153, R161). -/
def passCommit (k : CommitInFlight) (s : State) : State :=
  let s1 := partStateChanged { s with control := { s.control with part := .service, cause := none, commit := none } }
  let s2 := placeResponse (commitAnswer k .ok []) s1
  let s3 := { s2 with scheduler := schedulerAtCommit s2.tables s2.now }
  let s4 := forChans s3.tables.mappedChans (armChannel s3.now) s3
  let s5 := recomputeAll { s4 with demand := armDemand s4.now s4.tables.demandFresh s4.demand }
  let s6 := forChans s5.tables.mappedChans leaveYielded s5
  forChans s6.tables.mappedChans (raiseNodeReported s6.now) s6

/-- A failing completion: LOADING with the actions of R54, the purge among them, and BAD_TABLE with the table id, the entry index
and the reason (R31, R54, R59). R32 says of either outcome that the slots are left as they stand: the model's choice (log 33). -/
def failCommit (k : CommitInFlight) (f : CheckFailure) (s : State) : State :=
  let s1 := enterLoading s
  placeResponse (commitAnswer k .badTable [byte f.table, byte f.index, byte f.reason])
    { s1 with control := { s1.control with commit := none } }

/-- COMMIT_CHECK_COMPLETE: the check in flight ends by its result, which depends on the tables alone (R58, R59). -/
def execCommitCheckComplete (s : State) : Host.Outcome State Fault Refusal :=
  .next (match s.control.part, s.control.commit with
    | .verify, some k =>
      match commitCheck s.tables with
      | none => passCommit k s
      | some f => failCommit k f s
    | _, _ => s)

end Sys2Proof.Machine
end

