-- ==== Sys2Proof/Machine/Wheel.lean ====
section
/-! DEFINITION. The wheel speed unit (ch. 4), the reference unit (ch. 5) and the decision at the channel controller (R124). -/

namespace Sys2Proof.Machine

open Sys2Proof

/-! ## Differences, speed and deceleration (R69 to R74) -/

/-- The turn of a channel's capture counter, 2^w (R69). -/
def captureTurn (e : WheelEntry) : Nat := 2 ^ widthBits e.width

/-- The span of one capture turn in µs, 2^w × k (R70, R71). -/
def captureSpan (e : WheelEntry) : Nat := captureTurn e * e.tick

/-- Δn, the edge difference modulo 256 (R69). -/
def edgeDifference (count previous : Byte) : Nat := (count - previous).toNat

/-- Δc, the tick difference modulo 2^w (R69); both captures are below 2^w. -/
def tickDifference (e : WheelEntry) (capture previous : Nat) : Nat :=
  (capture + captureTurn e - previous) % captureTurn e

/-- S of R72: floor(Δn × C × 1,000,000 / (T × Δc × k)), taken to 40,000 at most. -/
def edgeSpeed (e : WheelEntry) (dn dc : Nat) : Nat :=
  min 40000 (dn * e.circumference * 1000000 / (e.teeth * dc * e.tick))

/-- A deceleration: the fall times `scale` over `span`, truncated toward zero, clamped to −30,000 to +30,000; 0 when the
old speed was absent or the span is 0 (R73, R74). -/
def deceleration (old : Option Nat) (new scale span : Nat) : Int :=
  match old with
  | none => 0
  | some o =>
    if span = 0 then 0
    else clampInt (-30000) 30000 ((((o : Int) - (new : Int)) * (scale : Int)).tdiv (span : Int))

/-- The low-speed bound B after `m` ms without an edge, taken to 40,000 at most (R74). -/
def lowSpeedBound (e : WheelEntry) (m : Nat) : Nat := min 40000 (e.circumference * 1000 / (e.teeth * m))

/-- The new speed of a sample without edges: the bound, or the lesser of speed and bound; below 100 it is 0 (R74). -/
def boundedSpeed (old : Option Nat) (b : Nat) : Nat :=
  let v := match old with
    | some o => min o b
    | none => b
  if v < 100 then 0 else v

/-- The interval since an optional stamp; 0 where the stamp is absent, which no run reaches (log 21). -/
def since (t : Time) (stamp : Option Time) : Nat :=
  match stamp with
  | some x => elapsed t x
  | none => 0

/-- More time than one capture turn has passed since the stamp (R70, R71). No test is made where it is absent. -/
def gapReached (t : Time) (stamp : Option Time) (span : Nat) : Bool :=
  match stamp with
  | some x => span ≤ elapsed t x * 1000
  | none => false

/-! ## The decision (R92 to R94) -/

/-- Step 4: channel c's slip from Vref and its speed (R92). -/
def slipOf (vMin : Nat) (vref speed : Option Nat) : Nat :=
  match vref, speed with
  | some v, some s => if v < vMin then 0 else min 1000 ((v - s) * 1000 / v)
  | _, _ => 0

/-- A band's three figures: release slip, reapply slip, release decel. -/
def bandFigures (b : SlipBand) : Nat × Nat × Nat := (b.release, b.reapply, b.releaseDecel)

/-- Step 5: the band selected from a run's used bands (R93): the last whose from-speed is at most Vref, else the first. A
run without a used band has the free figures of Config (log 16). -/
def selectBand (bands : List SlipBand) (vref : Option Nat) : Nat × Nat × Nat :=
  let below := match vref with
    | some v => (bands.filter fun b => b.x.getD 65535 ≤ v).getLast?
    | none => none
  match below with
  | some b => bandFigures b
  | none =>
    match bands.head? with
    | some b => bandFigures b
    | none => Config.emptyRunBand

/-- Step 5: the decision (R94). -/
def decide94 (vMin : Nat) (vref speed : Option Nat) (target deadband slip : Nat) (decel : Int) (band : Nat × Nat × Nat) :
    Decision :=
  let judged := match vref, speed with
    | some v, some _ => vMin ≤ v && deadband ≤ target
    | _, _ => false
  if !judged then .inactive
  else if band.1 ≤ slip ∨ (band.2.2 : Int) ≤ decel then .over
  else if slip ≤ band.2.1 then .under
  else .within

/-! ## The reference (R87 to R90) -/

/-- The channel's speed is admitted as a candidate: mapped, usable, WHEEL_LOST not latched (R87). -/
def candidateSpeed (s : State) (c : Chan) : Option Nat :=
  if s.tables.mapped c && (s.wheel.nth c).usable && !(s.chan.nth c).latch.wheelLost then (s.wheel.nth c).speed else none

/-- The greatest of a list's present values. -/
def greatest (xs : List (Option Nat)) : Option Nat :=
  xs.foldl (fun m x =>
    match m, x with
    | some a, some b => some (max a b)
    | none, b => b
    | some a, none => some a) none

/-- The candidate: the greatest admitted speed, or none (R87). -/
def candidate (s : State) : Option Nat := greatest (allChans.map (candidateSpeed s))

/-- Vref after an update with a candidate (R88), clamped to 0 to 40,000. -/
def nextVref (t : Tables) (r : Reference) (v : Nat) (time : Time) : Nat :=
  match r.vref with
  | none => min 40000 v
  | some old =>
    let dt := since time r.lastUpdate
    min 40000 (if old ≤ v then min v (old + t.aUp * dt / 1000) else max v (old - t.dMax * dt / 1000))

/-- Step 2: Vref and the last update stamp (R88). -/
def updateVref (s : State) (time : Time) : Reference :=
  match candidate s with
  | none => s.reference
  | some v => { s.reference with vref := some (nextVref s.tables s.reference v time), lastUpdate := some time }

/-- Step 3: Vref followed to and from 0 (R89). -/
def followZero (before : Option Nat) (time : Time) (r : Reference) : Reference :=
  match before, r.vref with
  | some 0, some 0 => r
  | _, some 0 => { r with zeroSince := some time, timer := some (after time 2000) }
  | some 0, some _ => { r with zeroSince := none, timer := none, standstill := false }
  | _, _ => r

/-- Vref rises above 0 from 0: the vehicle has begun to roll (R89). -/
def rolls (before new : Option Nat) : Bool :=
  match before, new with
  | some 0, some (_ + 1) => true
  | _, _ => false

/-! ## The decision at the controller (R122, R124) -/

/-- The state a decision moves a channel to; none where it stays (R124). -/
def decisionMove : ChanState → Decision → Option ChanState
  | .follow, .over => some .dump
  | .dump, .within => some .hold
  | .dump, .under => some .reapply
  | .dump, .inactive => some .follow
  | .hold, .over => some .dump
  | .hold, .under => some .reapply
  | .hold, .inactive => some .follow
  | .reapply, .over => some .dump
  | .reapply, .within => some .hold
  | .reapply, .inactive => some .follow
  | _, _ => none

/-- A decision taken by the channel controller, in SERVICE and DEGRADED (R124). -/
def takeDecision (c : Chan) (d : Decision) (s : State) : State :=
  if s.control.part.modulating then
    match decisionMove (s.chan.nth c).state d with
    | some st => enterState c st s
    | none => s
  else s

/-! ## A speed update (R86) -/

/-- A speed update for channel c at time t (R86): candidate and Vref, standstill, the roll notice to the channel controllers,
slip, decision, and the decision handed to the controller after the test of R122 (R95, R122). A channel whose calibration
this update's roll has aborted is not tested at it (R186; log 14). -/
def speedUpdate (c : Chan) (t : Time) (s : State) : State :=
  let before := s.reference.vref
  let zeroing := (s.chan.nth c).state == .zeroing
  let s1 := { s with reference := followZero before t (updateVref s t) }
  let s2 := if rolls before s1.reference.vref then forChans allChans abortIfZeroing s1 else s1
  let w := s2.wheel.nth c
  let vMin := s2.tables.vMin
  let slip := slipOf vMin s2.reference.vref w.speed
  let d := decide94 vMin s2.reference.vref w.speed (s2.demand.target.nth c) (s2.tables.timingOf c).deadband slip w.decel
    (selectBand (s2.tables.bandsUsed (s2.tables.axleOf c)) s2.reference.vref)
  let s3 :=
    { s2 with
      reference :=
        { s2.reference with slip := s2.reference.slip.put c slip, decision := s2.reference.decision.put c d } }
  takeDecision c d (if zeroing then s3 else leaveYielded c s3)

/-! ## A wheel sample (R67 to R76) -/

/-- Both wheel deadlines armed from a time (R68, R70, R76). -/
def armWheel (t : Time) (fresh : Nat) (x : SpeedRecord) : SpeedRecord :=
  { x with deadline1 := some (after t fresh), deadline2 := some (after t (3 * fresh)) }

/-- A resync (R70, R71): the sample becomes the base, both stamps become t, the deadlines are armed, the lost condition ends. -/
def resync (c : Chan) (t : Time) (b : Base) (s : State) : State :=
  endWheelLost c
    (s.modifyWheel c fun x =>
      armWheel t s.tables.wheelFresh { x with base := some b, lastEdge := some t, lastSample := some t })

/-- The completion of a sample's arrival (R76): stamp, stale flag, deadlines, lost condition, speed update. -/
def completeSample (c : Chan) (t : Time) (s : State) : State :=
  speedUpdate c t
    (endWheelLost c
      (s.modifyWheel c fun x => armWheel t s.tables.wheelFresh { x with lastSample := some t, stale := false }))

/-- A sample with edges and ticks (R72, R73). -/
def sampleSpeed (e : WheelEntry) (t : Time) (b : Base) (dn dc : Nat) (x : SpeedRecord) : SpeedRecord :=
  let v := edgeSpeed e dn dc
  { x with base := some b, speed := some v, decel := deceleration x.speed v 1000000 (dc * e.tick), lastEdge := some t }

/-- A sample without edges (R74). -/
def sampleBound (e : WheelEntry) (t : Time) (b : Base) (x : SpeedRecord) : SpeedRecord :=
  let m := since t x.lastEdge
  if m = 0 then { x with base := some b }
  else
    let v := boundedSpeed x.speed (lowSpeedBound e m)
    { x with base := some b, speed := some v, decel := deceleration x.speed v 1000 (since t x.lastSample) }

/-- A WHEEL_SAMPLE taken in SERVICE, DEGRADED or BACKUP (R69 to R76). -/
def sampleInService (c : Chan) (p : WheelPayload) (t : Time) (h : Header) (s : State) : State :=
  let e := s.tables.wheelMap.nth c
  let x := s.wheel.nth c
  let b : Base := { count := p.count, capture := p.capture % captureTurn e }
  match x.base with
  | none => resync c t b s
  | some old =>
    let dn := edgeDifference b.count old.count
    let dc := tickDifference e b.capture old.capture
    if gapReached t x.lastSample (captureSpan e) then resync c t b s
    else if dn = 0 then completeSample c t (s.modifyWheel c (sampleBound e t b))
    else if gapReached t x.lastEdge (captureSpan e) then resync c t b s
    else if dc = 0 then
      completeSample c t
        ((report { kind := .wheelImplausible, locus := .channel c, time := t, header := some h } s).modifyWheel c
          fun x => { x with base := some b })
    else completeSample c t (s.modifyWheel c (sampleSpeed e t b dn dc))

/-- A WHEEL_SAMPLE copy for channel c (R67): outside SERVICE, DEGRADED and BACKUP it refreshes the stamp and ends the lost
condition alone. -/
def wheelSample (c : Chan) (p : WheelPayload) (t : Time) (h : Header) (s : State) : State :=
  if s.control.part.committed then sampleInService c p t h s
  else endWheelLost c (s.modifyWheel c fun x => { x with lastSample := some t })

end Sys2Proof.Machine
end

