-- ==== Sys2Proof/Machine/Sorter.lean ====
section
/-! DEFINITION. The receivers' checks (R11, R13) and the frame sorter (section 2.1). -/

namespace Sys2Proof.Machine

open Sys2Proof

/-- The direction a frame that arrived at a port travels: from U down, from D up (ch. 2). -/
def directionFrom : Port → Direction
  | .u => .down
  | .d => .up

/-- A report about a frame at its port of arrival (R12, R37). -/
def portReport (k : FaultKind) (p : Port) (t : Time) (h : Option Header) : FaultReport :=
  { kind := k, locus := .port p, time := t, header := h }

/-! ## Test 4: forwarding (R26, R28) -/

/-- A frame in an enabled window joins its FIFO, or is discarded with FWD_OVERRUN when the FIFO is full; a frame in no window is
dropped without report (R26, R28). -/
def forwardFrame (p : Port) (f : Frame) (s : State) : State :=
  let d := directionFrom p
  if s.tables.forwards d f.header.dest then
    if (s.fifos.sel d).length < fifoCapacity then joinFifo d f s
    else report { kind := .fwdOverrun, locus := .direction d, time := s.now, header := some f.header } s
  else s

/-! ## Test 1: frames addressed to the part (R20) -/

/-- A frame whose destination is the part's own address (R20). -/
def ownFrame (p : Port) (f : Frame) (s : State) : State :=
  match kindOf f.header.kind with
  | .mgmtRequest =>
    match p, f.payload with
    | .u, code :: tag :: args =>
      if s.tables.sourceAccepted f.header.source then
        offerRequest { code := code, tag := tag, args := args, source := f.header.source } s.now f.header s
      else report (portReport .roleSource .u s.now (some f.header)) s
    | .u, _ => s
    | .d, _ => report (portReport .roleSource .d s.now (some f.header)) s
  | .invalid | .demand | .wheelSample | .pressureSample | .loadSample | .doorNotice | .valveCommand | .nodeFault
  | .statusNotice | .mgmtResponse | .general => report (portReport .linkFormat p s.now (some f.header)) s

/-! ## Test 3: copies (R23 to R25, R161) -/

/-- A DEMAND at port U (R23): copied from the demand node, reported from any other while the entry names one. -/
def copyDemand (f : Frame) (s : State) : State :=
  if s.tables.roles.nth 0 = 0 then s
  else if f.header.source = s.tables.roles.nth 0 then
    match demandPayload f.payload with
    | some x => acceptDemand x s.now f.header s
    | none => s
  else report (portReport .roleSource .u s.now (some f.header)) s

/-- A DOOR_NOTICE at port U (R23). -/
def copyDoor (f : Frame) (s : State) : State :=
  if s.tables.roles.nth 1 ≠ 0 ∧ f.header.source = s.tables.roles.nth 1 then
    match doorPayload f.payload with
    | some x => doorNotice x s
    | none => s
  else s

/-- A WHEEL_SAMPLE at port D, to every matching channel (R24). -/
def copyWheel (f : Frame) (s : State) : State :=
  match wheelPayload f.payload with
  | some x =>
    forChans (allChans.filter (s.tables.wheelMatch f.header.source x.index))
      (fun c s => wheelSample c x s.now f.header s) s
  | none => s

/-- A PRESSURE_SAMPLE copy: to the channel's controller, and a supply value to the demand unit for the channel's axle (R24;
log 12). -/
def copyPressureTo (x : PressurePayload) (h : Header) (c : Chan) (s : State) : State :=
  let s1 := pressureSample c x.raw s.now s
  match x.supply with
  | some v => supplyValue (s1.tables.axleOf c) v s1.now h s1
  | none => s1

/-- A PRESSURE_SAMPLE at port D, to every matching channel (R24). -/
def copyPressure (f : Frame) (s : State) : State :=
  match pressurePayload f.payload with
  | some x =>
    forChans (allChans.filter (s.tables.valveMatch f.header.source x.index)) (copyPressureTo x f.header) s
  | none => s

/-- A LOAD_SAMPLE at port D (R25). -/
def copyLoad (f : Frame) (s : State) : State :=
  match loadPayload f.payload with
  | some x =>
    match s.tables.loadAxle s.variant f.header.source x.axle with
    | some a => loadSample a x.load s
    | none => s
  | none => s

/-- The node-reported condition of a channel set (R161). -/
def setNode (c : Chan) (b : Bool) (s : State) : State :=
  { s with monitor := { s.monitor with node := s.monitor.node.put c b } }

/-- A node report for a channel (R161): code 0 clears the condition; any other sets it and, in SERVICE, DEGRADED and BACKUP,
raises NODE_REPORTED. -/
def nodeReport (code : Byte) (t : Time) (h : Header) (c : Chan) (s : State) : State :=
  if code = 0 then endCondition .nodeReported (.channel c) (setNode c false s)
  else if s.control.part.committed then
    report { kind := .nodeReported, locus := .channel c, time := t, header := some h } (setNode c true s)
  else setNode c true s

/-- A NODE_FAULT at port D, to every matching channel (R24). -/
def copyNodeFault (f : Frame) (s : State) : State :=
  match nodeFaultPayload f.payload with
  | some x =>
    forChans (allChans.filter (s.tables.nodeFaultMatch f.header.source x))
      (fun c s => nodeReport x.code s.now f.header c s) s
  | none => s

/-- Test 3 (R19): a copy handed to the owning unit, by kind and port. -/
def copyFrame (p : Port) (f : Frame) (s : State) : State :=
  match p, kindOf f.header.kind with
  | .u, .demand => copyDemand f s
  | .u, .doorNotice => copyDoor f s
  | .d, .wheelSample => copyWheel f s
  | .d, .pressureSample => copyPressure f s
  | .d, .loadSample => copyLoad f s
  | .d, .nodeFault => copyNodeFault f s
  | _, _ => s

/-- The sorter (R19): own frames and valve commands end; every other frame is copied where it matches, then forwarded. All that a
copy or its report does is done before the frame joins its FIFO: the model's choice (log 34). -/
def sortFrame (p : Port) (f : Frame) (s : State) : State :=
  if f.header.dest = s.address then ownFrame p f s
  else if kindOf f.header.kind = .valveCommand then report (portReport .roleValve p s.now (some f.header)) s
  else forwardFrame p f (copyFrame p f s)

/-! ## The arrival checks (R11, R13) -/

/-- A duplicate demand (R13). -/
def duplicateDemand (p : Port) (h : Header) (s : State) : Bool :=
  p == .u && kindOf h.kind == .demand && s.tables.roles.nth 0 != 0 && h.source == s.tables.roles.nth 0
    && s.demand.lastSeq == some h.sequence

/-- A frame's arrival (R11): the check, the kind, the length, the duplicate test, in this order; a frame that passes goes to the
sorter. -/
def arrive (p : Port) (f : Frame) (s : State) : State :=
  if f.check ≠ frameCheck f.header f.payload then report (portReport .linkCrc p s.now (some f.header)) s
  else if kindOf f.header.kind = .invalid then report (portReport .linkFormat p s.now (some f.header)) s
  else if !lengthPermitted (kindOf f.header.kind) f.header.length.toNat then
    report (portReport .linkFormat p s.now (some f.header)) s
  else if duplicateDemand p f.header s then s
  else sortFrame p f s

end Sys2Proof.Machine
end

