-- ==== Sys2Proof/Machine/LineCommands.lean ====
section
/-! DEFINITION. The line's commands: bytes, line errors, line idle, the arrival of a frame and the end of a transmission
(sections 1.4, 1.6). -/

namespace Sys2Proof.Machine

open Sys2Proof

/-- A receiver goes to a state. -/
def setReceiver (p : Port) (r : Receiver) (s : State) : State := s.modifyPort p fun x => { x with rx := r }

/-- The frame in progress, or a byte in READY, is rejected: LINK_CRC is reported for the port, with the header where all three
bytes had been received, and the receiver goes to a state (R9). -/
def rejectCrc (p : Port) (h : Option Header) (next : Receiver) (s : State) : State :=
  report (portReport .linkCrc p s.now h) (setReceiver p next s)

/-- The frame in progress is truncated: the line is already idle, so the receiver goes to READY (R9). -/
def truncate (p : Port) (s : State) : State :=
  match (s.port.sel p).rx with
  | .header _ _ => rejectCrc p none (.ready false) s
  | .body h _ => rejectCrc p (some h) (.ready false) s
  | .waitIdle | .ready _ | .discard => s

/-- A byte in READY within 2 byte times of the end of the frame before: a fragment (R9). -/
def fragment (p : Port) (s : State) : State :=
  match (s.port.sel p).rx with
  | .ready true => rejectCrc p none .discard s
  | .waitIdle | .ready false | .header _ _ | .body _ _ | .discard => s

/-- A byte with its stop bit at the wrong level (R9). -/
def badStop (p : Port) (s : State) : State :=
  match (s.port.sel p).rx with
  | .ready _ | .header _ _ => rejectCrc p none .discard s
  | .body h _ => rejectCrc p (some h) .discard s
  | .waitIdle | .discard => s

/-- The third header byte (R8, R10): a length of 0 to 12 leads to BODY; 13 to 15 discards the header, reports LINK_FORMAT and
leads to DISCARD. -/
def thirdHeaderByte (p : Port) (h : Header) (s : State) : State :=
  if 13 ≤ h.length.toNat then report (portReport .linkFormat p s.now (some h)) (setReceiver p .discard s)
  else setReceiver p (.body h []) s

/-- The number of bytes a BODY collects: the payload and two check bytes (R8). -/
def bodyLength (h : Header) : Nat := h.length.toNat + 2

/-- The frame a complete BODY holds (R1): the payload and the check, high byte first. -/
def frameOfBody (h : Header) (bytes : List Byte) : Frame :=
  let n := h.length.toNat
  { header := h, payload := bytes.take n, check := bytes.getD n 0 ++ bytes.getD (n + 1) 0 }

/-- The second check byte has been received: the receiver returns to READY and applies the arrival checks (R8, R11). -/
def completeFrame (p : Port) (h : Header) (bytes : List Byte) (s : State) : State :=
  arrive p (frameOfBody h bytes) (setReceiver p (.ready true) s)

/-- A byte received with a good stop bit, by the receiver's state (R8, R9, R10). -/
def takeByte (p : Port) (b : Byte) (s : State) : State :=
  match (s.port.sel p).rx with
  | .waitIdle | .discard => s
  | .ready true => fragment p s
  | .ready false => setReceiver p (.header b none) s
  | .header b0 none => setReceiver p (.header b0 (some b)) s
  | .header b0 (some b1) => thirdHeaderByte p (headerOf b0 b1 b) s
  | .body h rest =>
    if (rest ++ [b]).length = bodyLength h then completeFrame p h (rest ++ [b]) s
    else setReceiver p (.body h (rest ++ [b])) s

/-- RECEIVER_IDLE: the line has carried no start bit for 2 byte times (R8). A receiver in WAIT_IDLE or DISCARD goes to READY; in
READY the time after the frame before has passed; in HEADER or BODY the frame is truncated (R9; log 6, log 7). -/
def execReceiverIdle (p : Port) (s : State) : Host.Outcome State Fault Refusal :=
  .next (match (s.port.sel p).rx with
    | .waitIdle | .discard | .ready _ => setReceiver p (.ready false) s
    | .header _ _ | .body _ _ => truncate p s)

/-- LINE_ERROR: a bad stop bit, a truncated frame or a fragment (R9). -/
def execLineError (p : Port) (e : LineFault) (s : State) : Host.Outcome State Fault Refusal :=
  .next (match e with
    | .badStopBit => badStop p s
    | .truncated => truncate p s
    | .fragment => fragment p s)

/-- BAD_LENGTH: header byte 2 arrives with a length field of 13 to 15 (R10). -/
def execBadLength (p : Port) (b : Byte) (s : State) : Host.Outcome State Fault Refusal :=
  .next (match (s.port.sel p).rx with
    | .header b0 (some b1) =>
      if 13 ≤ (headerOf b0 b1 b).length.toNat then thirdHeaderByte p (headerOf b0 b1 b) s else s
    | .waitIdle | .ready _ | .header _ none | .body _ _ | .discard => s)

/-- FRAME_ARRIVAL: the last check byte arrives in BODY, and the frame is tested and sorted (R8, R11, R19). -/
def execFrameArrival (p : Port) (b : Byte) (s : State) : Host.Outcome State Fault Refusal :=
  .next (match (s.port.sel p).rx with
    | .body h rest => if rest.length + 1 = bodyLength h then completeFrame p h (rest ++ [b]) s else s
    | .waitIdle | .ready _ | .header _ _ | .discard => s)

/-- BYTE_RECEIVED: a byte reaches a receiver (R8). -/
def execByteReceived (p : Port) (b : Byte) (s : State) : Host.Outcome State Fault Refusal :=
  .next (takeByte p b s)

/-- A port's transmitter goes to IDLE and its arbiter chooses (R14, R30, R35). -/
def endTransmission (p : Port) (s : State) : State :=
  let s1 := s.modifyPort p fun x => { x with tx := .idle }
  match p with
  | .u => chooseUp s1
  | .d => chooseDown s1

/-- TRANSMISSION_COMPLETE: a frame and its idle time are over (R14). -/
def execTransmissionComplete (p : Port) (s : State) : Host.Outcome State Fault Refusal :=
  .next (match (s.port.sel p).tx with
    | .sending _ => endTransmission p s
    | .idle => s)

end Sys2Proof.Machine
end

