-- ==== Sys2Proof/Machine/RequestCommands.lean ====
section
/-! DEFINITION. The requests' commands but COMMIT and RELEASE: each is the completion of the service of a request of its row
(ch. 10; R48 to R51, R120, R136, R137, R167, R168). -/

namespace Sys2Proof.Machine

open Sys2Proof

/-! ## Reads (R178 to R183) -/

/-- DIR_READ (R178). -/
def execDirRead (s : State) : Host.Outcome State Fault Refusal :=
  .next (completeService .dirRead (fun r s =>
    if arg r 0 < 12 then answer r .ok (descriptorBytes s.variant (arg r 0)) s else answer r .badIndex [] s) s)

/-- The table and index two argument bytes name, where they exist on the variant (R38, R178). -/
def namedEntry (v : Variant) (r : Request) : Option (TableId × Nat) :=
  match tableOf (arg r 0) with
  | some id => if arg r 1 < entryCount v id then some (id, arg r 1) else none
  | none => none

/-- TABLE_READ (R178). -/
def execTableRead (s : State) : Host.Outcome State Fault Refusal :=
  .next (completeService .tableRead (fun r s =>
    match namedEntry s.variant r with
    | some (id, i) => answer r .ok (s.tables.readBytes s.variant id i) s
    | none => answer r .badIndex [] s) s)

/-- PART_READ (R179). -/
def execPartRead (s : State) : Host.Outcome State Fault Refusal :=
  .next (completeService .partRead (fun r s => answer r .ok (partReadData s) s) s)

/-- CHANNEL_READ (R180, R181). -/
def execChannelRead (s : State) : Host.Outcome State Fault Refusal :=
  .next (completeService .channelRead (fun r s =>
    match chanOf s.variant (arg r 0), arg r 1 with
    | some c, 0 => answer r .ok (wheelHalf s c) s
    | some c, 1 => answer r .ok (pressureHalf s c) s
    | _, _ => answer r .badIndex [] s) s)

/-- FAULT_READ (R182). -/
def execFaultRead (s : State) : Host.Outcome State Fault Refusal :=
  .next (completeService .faultRead (fun r s =>
    if faultListCapacity ≤ arg r 0 then answer r .badIndex [] s
    else
      match s.monitor.list[arg r 0]? with
      | some e => answer r .ok (faultEntryData e) s
      | none => answer r .noEntry [] s) s)

/-- FIRST_READ (R183). -/
def execFirstRead (s : State) : Host.Outcome State Fault Refusal :=
  .next (completeService .firstRead (fun r s =>
    match s.monitor.first with
    | some f => answer r .ok (firstFaultData f) s
    | none => answer r .noEntry [] s) s)

/-- UNKNOWN_REQUEST: an unknown code or an argument count the code does not take (R176). -/
def execUnknownRequest (s : State) : Host.Outcome State Fault Refusal :=
  .next (completeService .unknown (fun r s => answer r .unknown [] s) s)

/-! ## FAULT_CLEAR and FIRST_CLEAR (R167, R168) -/

/-- The entry a kind number and a locus code name, if the list holds one (R167). -/
def namedFault (s : State) (r : Request) : Option FaultEntry :=
  match faultKindOf (arg r 0), locusOf s.variant (arg r 1) with
  | some k, some l => s.monitor.list.find? fun e => e.isFor k l
  | _, _ => none

/-- The list with an entry acknowledged, its condition being present (R167). -/
def acknowledge (e : FaultEntry) (s : State) : State :=
  { s with
    monitor :=
      { s.monitor with
        list := s.monitor.list.map fun x =>
          if x.isFor e.kind e.locus then { x with acknowledged := true, present := true } else x } }

/-- The list with an entry removed (R163, R167). -/
def removeEntry (e : FaultEntry) (s : State) : State :=
  { s with
    monitor := { s.monitor with list := s.monitor.list.eraseP fun x => x.isFor e.kind e.locus } }

/-- FAULT_CLEAR's cases (R167). DESIGN CHOICE (log 37): the rule does not order the answer against the notice that a change of
the lamp places; the model tells the status reporter first and places the answer last. -/
def faultClearRequest (r : Request) (s : State) : State :=
  match namedFault s r with
  | none => answer r .noEntry [] s
  | some e =>
    if e.count ≠ arg r 2 then answer r .stale [byte e.count] s
    else if conditionPresent s e.kind e.locus then answer r .held [] (faultListChanged (acknowledge e s))
    else answer r .ok [] (faultListChanged (removeEntry e s))

/-- FAULT_CLEAR (R167). -/
def execFaultClear (s : State) : Host.Outcome State Fault Refusal :=
  .next (completeService .faultClear faultClearRequest s)

/-- FIRST_CLEAR: the first-fault record becomes absent and the overflow flag clears (R168). -/
def execFirstClear (s : State) : Host.Outcome State Fault Refusal :=
  .next (completeService .firstClear (fun r s =>
    answer r .ok [] { s with monitor := { s.monitor with first := none, overflow := false } }) s)

/-! ## TABLE_WRITE (R48 to R51) -/

/-- The fault monitor drops a channel's node-reported condition as its WHEEL_MAP entry is written (R161, R162; log 18). -/
def dropNode (c : Chan) (s : State) : State :=
  endCondition .nodeReported (.channel c) { s with monitor := { s.monitor with node := s.monitor.node.put c false } }

/-- The channel context after a write to its WHEEL_MAP entry, but for its state (R120). -/
def channelRewritten (old new : WheelEntry) (x : Channel) : Channel :=
  { x with latch := latchEmpty, measured := none, stamp := none, stale := true, settleUntil := none, trackRef := none
           trackCount := 0, dumpSince := none
           offset := if old.valveNode = new.valveNode ∧ old.valveIndex = new.valveIndex then x.offset else 0
           partnerHold := new.present && x.partnerHold }

/-- The speed record and the reference record after a write to a channel's WHEEL_MAP entry (R81, R85). -/
def wheelRewritten (c : Chan) (s : State) : State :=
  let s1 := (endWheelLost c s).modifyWheel c fun _ => speedInitial
  { s1 with
    reference :=
      { s1.reference with slip := s1.reference.slip.put c 0, decision := s1.reference.decision.put c .inactive } }

/-- The channel becomes YIELDED or VACANT by a write to its WHEEL_MAP entry (R120). -/
def mapState (c : Chan) (isPresent : Bool) (s : State) : State :=
  if isPresent then enterState c .yielded s else s.modifyChan c fun x => { x with state := .vacant }

/-- What a write to a channel's WHEEL_MAP entry does beyond the table (R51, R81, R85, R120, R134, R161). -/
def wheelMapEffect (c : Chan) (old : WheelEntry) (s : State) : State :=
  let new := s.tables.wheelMap.nth c
  let s1 := dropNode c (endPressureLost c (wheelRewritten c s))
  let s2 := mapState c new.present (s1.modifyChan c (channelRewritten old new))
  holdReport c (evaluateHolds new.axle (evaluateHolds old.axle s2))

/-- An accepted write applied: the entry stored, and what the owners do on it (R50, R51, R101, R104, R120, R134). -/
def applyWrite (i : Nat) (e : Entry) (s : State) : State :=
  let s1 := { s with tables := s.tables.store i e }
  match e with
  | .roles _ => if i = 0 then { s1 with demand := { s1.demand with lastSeq := none } } else s1
  | .axle _ =>
    evaluateHolds (Fin.ofNat 3 i)
      { s1 with demand := { s1.demand with load := s1.demand.load.put (Fin.ofNat 3 i) none } }
  | .wheelMap _ => wheelMapEffect (Fin.ofNat 6 i) (s.tables.wheelMap.nth (Fin.ofNat 6 i)) s1
  | .global _ | .forward _ | .timing _ | .aux _ | .loadCurve _ | .slipBands _ | .valveCurve _ | .policy _ => s1

/-- An accepted write (R53): LOADING is entered first where the part is not in it, the written flag is set, the write applied,
and the answer carries the stored entry (R50). DESIGN CHOICE (log 37): any notice the write causes comes before the answer. -/
def acceptWrite (r : Request) (i : Nat) (e : Entry) (bytes : List Byte) (s : State) : State :=
  let s1 := if s.control.part = .loading then s else enterLoading s
  let s2 := applyWrite i e { s1 with control := { s1.control with written := true } }
  answer r (if entryBytes e = bytes then .ok else .okClamped) (entryBytes e) s2

/-- TABLE_WRITE's tests in their order (R48). -/
def tableWriteRequest (r : Request) (s : State) : State :=
  let bytes := r.args.drop 2
  if s.control.part = .verify then answer r .state [] s
  else if s.control.part.committed && !s.reference.standstill then answer r .moving [] s
  else
    match namedEntry s.variant r with
    | none => answer r .badIndex [] s
    | some (.directory, _) => answer r .readOnly [] s
    | some (id, i) =>
      match storedEntry s.variant id i bytes with
      | none => answer r .unknown [] s
      | some e =>
        if s.tables.referenceOk s.variant i e bytes then acceptWrite r i e bytes s else answer r .order [] s

/-- TABLE_WRITE (R48). -/
def execTableWrite (s : State) : Host.Outcome State Fault Refusal :=
  .next (completeService .tableWrite tableWriteRequest s)

/-! ## RESTORE_CHANNEL (R136) -/

/-- The latch set with every kind removed whose condition is not present (R136). -/
def keptLatches (s : State) (c : Chan) : LatchSet :=
  let l := (s.chan.nth c).latch
  { wheelLost := l.wheelLost && (s.wheel.nth c).lost
    wheelImplausible := false
    pressureLost := l.pressureLost && (s.chan.nth c).lost
    pressureTrack := false
    dumpTimeout := false
    nodeReported := l.nodeReported && s.monitor.node.nth c }

/-- The effect on a channel in range: the kinds removed and, where the set changes, the partner holds; where it becomes empty,
the held-out report and the test of R122 (R134, R136). -/
def restore (c : Chan) (s : State) : State :=
  let l := keptLatches s c
  if l = (s.chan.nth c).latch then s
  else
    let s1 := evaluateHolds (s.tables.axleOf c) (s.modifyChan c fun x => { x with latch := l })
    if l.isEmpty then leaveYielded c (holdReport c s1) else s1

/-- RESTORE_CHANNEL (R136). DESIGN CHOICE (log 37): its effects, with any notice they cause, come before its answer. -/
def execRestoreChannel (s : State) : Host.Outcome State Fault Refusal :=
  .next (completeService .restoreChannel (fun r s =>
    match chanOf s.variant (arg r 0) with
    | none => answer r .badIndex [] s
    | some c =>
      let l := keptLatches s c
      answer r (if l.isEmpty then .ok else .condition) [latchByte l] (restore c s)) s)

/-! ## ZERO (R137) -/

/-- The first test of R137 that fails for a channel in range, or none. -/
def zeroTests (s : State) (c : Chan) : Option ResultCode :=
  let x := s.chan.nth c
  if !s.control.part.committed then some .state
  else if x.state = .zeroing then some .busy
  else if x.state ≠ .follow ∧ x.state ≠ .hold ∧ x.state ≠ .yielded then some .state
  else if !x.latch.isEmpty then some .latched
  else if !s.reference.standstill then some .moving
  else
    match s.demand.demand with
    | some d => if d < 20 then none else some .demand
    | none => none

/-- ZERO accepted (R137, R177): ZEROING, the accumulator, the zero timer, the zero request; the responder goes on without an
answer. -/
def acceptZero (r : Request) (c : Chan) (s : State) : State :=
  let s1 := s.modifyChan c fun x =>
    { x with zeroAcc := some { sum := 0, count := 0, start := s.now }, zeroTimer := some (after s.now s.tables.zeroMs)
             zeroRequest := some { source := r.source, tag := r.tag } }
  finishService (holdReport c (enterState c .zeroing s1))

/-- ZERO (R137). -/
def execZero (s : State) : Host.Outcome State Fault Refusal :=
  .next (completeService .zero (fun r s =>
    match chanOf s.variant (arg r 0) with
    | none => answer r .badIndex [] s
    | some c =>
      match zeroTests s c with
      | some x => answer r x [] s
      | none => acceptZero r c s) s)

end Sys2Proof.Machine
end

