-- ==== Sys2Proof/Machine/ResetCommands.lean ====
section
/-! DEFINITION. The two resets: POWER_ON_RESET and PIN_RESET (R17, R18, R36, R40, R64, R66, R85, R98, R119, R141, R163, R169,
R170, R172). -/

namespace Sys2Proof.Machine

open Sys2Proof

/-- The state both resets lead to, before the reporter's notice: what differs between them is given. -/
def resetWith (straps : BitVec 3) (t : Tables) (k : Controller) (chan : Row 6 Channel) (s : State) : State :=
  { variant := s.variant
    address := addressOf straps
    now := 0
    port := { u := portInitial, d := portInitial }
    fifos := { down := [], up := [] }
    downstream := { slots := Row.fill 6 none, lastServed := highestChannel s.variant }
    upstream := { responses := [], notice := none }
    tables := t
    control := k
    wheel := Row.fill 6 speedInitial
    reference := referenceInitial
    demand := demandInitial
    chan := chan
    scheduler := schedulerInitial
    monitor := monitorInitial
    management := managementInitial
    reporter := { lamp := .red, lampR := true, lampA := false, timer := after 0 t.statusPeriod }
    pending := s.pending }

/-- The configuration controller after a reset (R61, R64). -/
def controlAfterReset (written : Bool) : Controller :=
  { part := if written then .loading else .cold, cause := none, written := written, commit := none
    heldOut := Row.fill 6 false }

/-- A channel context after pin reset: YIELDED if mapped by the kept tables, the offset kept (R119). -/
def channelAfterPin (s : State) (c : Chan) : Channel :=
  channelInitial (if s.tables.mapped c then .yielded else .vacant) (s.chan.nth c).offset

/-- Every channel context after pin reset. -/
def channelsAfterPin (s : State) : Row 6 Channel :=
  #v[channelAfterPin s 0, channelAfterPin s 1, channelAfterPin s 2, channelAfterPin s 3, channelAfterPin s 4,
     channelAfterPin s 5]

/-- POWER_ON_RESET: every block at its power-on state, COLD, the lamp RED, a notice placed at once (R17, R64, R170). -/
def execPowerOnReset (straps : BitVec 3) (s : State) : Host.Outcome State Fault Refusal :=
  .next (placeNotice
    (resetWith straps tablesPowerOn (controlAfterReset false) (Row.fill 6 (channelInitial .vacant 0)) s))

/-- PIN_RESET: the blocks reset, the tables, the written flag and the offsets kept; LOADING if the written flag is set, else
COLD; a notice placed at once (R17, R40, R64, R119, R170). -/
def execPinReset (straps : BitVec 3) (s : State) : Host.Outcome State Fault Refusal :=
  .next (placeNotice
    (resetWith straps s.tables (controlAfterReset s.control.written) (channelsAfterPin s) s))

end Sys2Proof.Machine
end

