-- ==== Sys2Proof/Machine/TimerCommands.lean ====
section
/-! DEFINITION. The timers' commands: each takes effect where its timer runs and part time has reached its expiry; the event's
time is that expiry (log 5, log 22). -/

namespace Sys2Proof.Machine

open Sys2Proof

/-- The event of a timer that is due, at its expiry; a timer that is stopped or not yet due gives no event. -/
def onDue (timer : Option Time) (f : Time → State → State) (s : State) : State :=
  match due s.now timer with
  | some e => f e s
  | none => s

/-- CYCLE_TIMER_EXPIRY: the axle's boundary (R142, R145 to R147). -/
def execCycleTimerExpiry (a : Axle) (s : State) : Host.Outcome State Fault Refusal :=
  .next (onDue (s.scheduler.cycle.nth a) (boundary a) s)

/-- SETTLE_WINDOW_END: part time reaches settle-until (R132). -/
def execSettleWindowEnd (c : Chan) (s : State) : Host.Outcome State Fault Refusal :=
  .next (onDue (s.chan.nth c).settleUntil (windowEnd c) s)

/-- The wheel unit's stale notice at the controller: DUMP or REAPPLY enters HOLD (R125). -/
def staleNotice (c : Chan) (s : State) : State :=
  match (s.chan.nth c).state with
  | .dump | .reapply => enterState c .hold s
  | .vacant | .yielded | .follow | .hold | .zeroing => s

/-- WHEEL_DEADLINE_1_EXPIRY: the stale flag is set and the controller is told (R77, R96, R125). -/
def execWheelDeadline1Expiry (c : Chan) (s : State) : Host.Outcome State Fault Refusal :=
  .next (onDue (s.wheel.nth c).deadline1
    (fun _ s => staleNotice c (s.modifyWheel c fun x => { x with stale := true, deadline1 := none })) s)

/-- WHEEL_DEADLINE_2_EXPIRY: the lost condition becomes present and WHEEL_LOST is reported (R78). -/
def execWheelDeadline2Expiry (c : Chan) (s : State) : Host.Outcome State Fault Refusal :=
  .next (onDue (s.wheel.nth c).deadline2
    (fun e s =>
      report { kind := .wheelLost, locus := .channel c, time := e, header := none }
        (s.modifyWheel c fun x => { x with lost := true, deadline2 := none })) s)

/-- STANDSTILL_TIMER_EXPIRY: standstill is set and the demand unit is told (R90, R115). -/
def execStandstillTimerExpiry (s : State) : Host.Outcome State Fault Refusal :=
  .next (onDue s.reference.timer
    (fun _ s => standstillBegins { s with reference := { s.reference with standstill := true, timer := none } }) s)

/-- DEMAND_DEADLINE_1_EXPIRY: the demand's stale flag is set (R102). -/
def execDemandDeadline1Expiry (s : State) : Host.Outcome State Fault Refusal :=
  .next (onDue s.demand.deadline1
    (fun _ s => { s with demand := { s.demand with stale := true, deadline1 := none } }) s)

/-- DEMAND_DEADLINE_2_EXPIRY: the lost condition becomes present and DEMAND_LOST is reported (R103). -/
def execDemandDeadline2Expiry (s : State) : Host.Outcome State Fault Refusal :=
  .next (onDue s.demand.deadline2
    (fun e s =>
      report { kind := .demandLost, locus := .none, time := e, header := none }
        { s with demand := { s.demand with lost := true, deadline2 := none } }) s)

/-- SUPPLY_TIMER_EXPIRY: the axle's supply becomes absent and its targets are recomputed (R108). -/
def execSupplyTimerExpiry (a : Axle) (s : State) : Host.Outcome State Fault Refusal :=
  .next (onDue (s.demand.supply.nth a).timer
    (fun _ s =>
      recompute (s.tables.chansOf a) (s.modifySupply a fun r => { r with supply := none, timer := none })) s)

/-- PRESSURE_DEADLINE_1_EXPIRY: the stale flag is set and a FOLLOW or REAPPLY channel withdraws its pending command (R131). -/
def execPressureDeadline1Expiry (c : Chan) (s : State) : Host.Outcome State Fault Refusal :=
  .next (onDue (s.chan.nth c).deadline1
    (fun _ s =>
      let s1 := s.modifyChan c fun x => { x with stale := true, deadline1 := none }
      match (s.chan.nth c).state with
      | .follow | .reapply => withdrawPending c s1
      | .vacant | .yielded | .hold | .dump | .zeroing => s1) s)

/-- PRESSURE_DEADLINE_2_EXPIRY: the lost condition becomes present and PRESSURE_LOST is reported (R131). -/
def execPressureDeadline2Expiry (c : Chan) (s : State) : Host.Outcome State Fault Refusal :=
  .next (onDue (s.chan.nth c).deadline2
    (fun e s =>
      report { kind := .pressureLost, locus := .channel c, time := e, header := none }
        (s.modifyChan c fun x => { x with lost := true, deadline2 := none })) s)

/-- DUMP_TIMER_EXPIRY: the dump timer stops and DUMP_TIMEOUT is reported (R126). -/
def execDumpTimerExpiry (c : Chan) (s : State) : Host.Outcome State Fault Refusal :=
  .next (onDue (s.chan.nth c).dumpTimer
    (fun e s =>
      report { kind := .dumpTimeout, locus := .channel c, time := e, header := none }
        (s.modifyChan c fun x => { x with dumpTimer := none })) s)

/-- The mean of a calibration: floor(sum / sample count) (R138). -/
def zeroMean (z : ZeroAccumulator) : Nat := z.sum / z.count

/-- A calibration's result (R138). -/
def zeroResult (z : ZeroAccumulator) : ResultCode :=
  if z.count = 0 then .noSamples else if zeroMean z ≤ 50 then .ok else .range

/-- A calibration's data: the mean or new offset and the sample count, at most 65535 (R138). -/
def zeroData (z : ZeroAccumulator) : List Byte :=
  if z.count = 0 then [] else be16 (zeroMean z) ++ be16 (min 65535 z.count)

/-- The offset after a calibration (R138). -/
def zeroOffset (z : ZeroAccumulator) (old : Nat) : Nat := if zeroResult z = .ok then zeroMean z else old

/-- The answer of a calibration placed for its request, if one stands (R138). -/
def answerZero (q : Option Deferred) (z : ZeroAccumulator) (s : State) : State :=
  match q with
  | some d => placeResponse { dest := d.source, code := 13, tag := d.tag, result := zeroResult z, data := zeroData z } s
  | none => s

/-- The end of a calibration (R138, R186): the offset, ZERO_RANGE where the mean is above 50, the answer, and YIELDED without the
test of R122. The report comes first, then the answer, then the held-out report: the model's choice (log 36). -/
def endZero (c : Chan) (z : ZeroAccumulator) (t : Time) (s : State) : State :=
  let q := (s.chan.nth c).zeroRequest
  let s1 :=
    if zeroResult z = .range then
      report { kind := .zeroRange, locus := .channel c, time := t, header := none } s
    else s
  let s2 := s1.modifyChan c fun x =>
    { x with offset := zeroOffset z x.offset, zeroAcc := none, zeroTimer := none, zeroRequest := none }
  holdReport c (enterState c .yielded (answerZero q z s2))

/-- ZERO_TIMER_EXPIRY: the calibration ends (R138). -/
def execZeroTimerExpiry (c : Chan) (s : State) : Host.Outcome State Fault Refusal :=
  .next (onDue (s.chan.nth c).zeroTimer
    (fun e s =>
      match (s.chan.nth c).zeroAcc with
      | some z => endZero c z e s
      | none => s.modifyChan c fun x => { x with zeroTimer := none }) s)

/-- ROLE_VALVE_QUIET_TIMER_EXPIRY: the port's ROLE_VALVE condition ends and its entry's flag clears (R160). -/
def execRoleValveQuietTimerExpiry (p : Port) (s : State) : Host.Outcome State Fault Refusal :=
  .next (onDue (s.monitor.quiet.sel p)
    (fun _ s =>
      endCondition .roleValve (.port p)
        { s with monitor := { s.monitor with quiet := s.monitor.quiet.put p none } }) s)

/-- STATUS_PERIOD_TIMER_EXPIRY: a periodic notice is placed and the timer re-armed (R170). -/
def execStatusPeriodTimerExpiry (s : State) : Host.Outcome State Fault Refusal :=
  .next (onDue (some s.reporter.timer)
    (fun e s => placeNotice { s with reporter := { s.reporter with timer := after e s.tables.statusPeriod } }) s)

end Sys2Proof.Machine
end

