-- ==== Sys2Proof/Machine/Dispatch.lean ====
section
/-! DEFINITION. The dispatch: one arm for each command, each a direct call of its meaning. -/

namespace Sys2Proof.Machine

open Sys2Proof

/-- The effect of a command on everything but the queue. -/
def exec (i : Instr) (s : State) : Host.Outcome State Fault Refusal :=
  match i with
  | .powerOnReset straps => Sys2Proof.Machine.execPowerOnReset straps s
  | .pinReset straps => Sys2Proof.Machine.execPinReset straps s
  | .receiverIdle p => Sys2Proof.Machine.execReceiverIdle p s
  | .lineError p e => Sys2Proof.Machine.execLineError p e s
  | .badLength p b => Sys2Proof.Machine.execBadLength p b s
  | .frameArrival p b => Sys2Proof.Machine.execFrameArrival p b s
  | .transmissionComplete p => Sys2Proof.Machine.execTransmissionComplete p s
  | .cycleTimerExpiry a => Sys2Proof.Machine.execCycleTimerExpiry a s
  | .settleWindowEnd c => Sys2Proof.Machine.execSettleWindowEnd c s
  | .wheelDeadline1Expiry c => Sys2Proof.Machine.execWheelDeadline1Expiry c s
  | .wheelDeadline2Expiry c => Sys2Proof.Machine.execWheelDeadline2Expiry c s
  | .standstillTimerExpiry => Sys2Proof.Machine.execStandstillTimerExpiry s
  | .demandDeadline1Expiry => Sys2Proof.Machine.execDemandDeadline1Expiry s
  | .demandDeadline2Expiry => Sys2Proof.Machine.execDemandDeadline2Expiry s
  | .supplyTimerExpiry a => Sys2Proof.Machine.execSupplyTimerExpiry a s
  | .pressureDeadline1Expiry c => Sys2Proof.Machine.execPressureDeadline1Expiry c s
  | .pressureDeadline2Expiry c => Sys2Proof.Machine.execPressureDeadline2Expiry c s
  | .dumpTimerExpiry c => Sys2Proof.Machine.execDumpTimerExpiry c s
  | .zeroTimerExpiry c => Sys2Proof.Machine.execZeroTimerExpiry c s
  | .roleValveQuietTimerExpiry p => Sys2Proof.Machine.execRoleValveQuietTimerExpiry p s
  | .statusPeriodTimerExpiry => Sys2Proof.Machine.execStatusPeriodTimerExpiry s
  | .commitCheckComplete => Sys2Proof.Machine.execCommitCheckComplete s
  | .dirRead => Sys2Proof.Machine.execDirRead s
  | .tableWrite => Sys2Proof.Machine.execTableWrite s
  | .tableRead => Sys2Proof.Machine.execTableRead s
  | .commit => Sys2Proof.Machine.execCommit s
  | .release => Sys2Proof.Machine.execRelease s
  | .partRead => Sys2Proof.Machine.execPartRead s
  | .channelRead => Sys2Proof.Machine.execChannelRead s
  | .faultRead => Sys2Proof.Machine.execFaultRead s
  | .firstRead => Sys2Proof.Machine.execFirstRead s
  | .faultClear => Sys2Proof.Machine.execFaultClear s
  | .firstClear => Sys2Proof.Machine.execFirstClear s
  | .restoreChannel => Sys2Proof.Machine.execRestoreChannel s
  | .zero => Sys2Proof.Machine.execZero s
  | .unknownRequest => Sys2Proof.Machine.execUnknownRequest s
  | .byteReceived p b => Sys2Proof.Machine.execByteReceived p b s

end Sys2Proof.Machine
end

