-- ==== Sys2Proof/Safety.lean ====
section
/-! DEFINITION. What a good state of the part is, in the terms the claims use: one predicate for each property the spec states of
every state, and the vocabulary of the statements (a frame that is about to arrive, the place of a request's answer). -/

namespace Sys2Proof.Machine

open Sys2Proof

/-! ## The tables (R41 to R47, R49) -/

/-- A number lies in a closed range. -/
abbrev within (lo hi n : Nat) : Prop := lo ≤ n ∧ n ≤ hi

/-- An AXLE entry: the power-on contents, or every field in its range (R43). -/
abbrev AxleEntry.InRange (e : AxleEntry) : Prop :=
  e = axleZero ∨ (within 200 900 e.pFull ∧ within 200 1000 e.pMax ∧ e.staticLoad ≤ 1500)

/-- An AXLE_TIMING entry: unset, or every field in its range (R44). -/
abbrev TimingEntry.InRange (e : TimingEntry) : Prop :=
  e = timingZero ∨
    (within 5 40 e.period ∧ within 2 20 e.minPulse ∧ e.lag ≤ 300 ∧ within 5 50 e.deadband ∧ within 2 40 e.reapplyMax
      ∧ within 200 3000 e.maxDump)

/-- An AXLE_AUX entry: unset, or every field in its range (R44). -/
abbrev AuxEntry.InRange (e : AuxEntry) : Prop :=
  e = auxZero ∨ (e.stopHold ≤ 1000 ∧ within 20 300 e.yawMargin ∧ e.supplyMargin ≤ 200 ∧ within 300 1000 e.supplyWarn)

/-- A WHEEL_MAP entry: the power-on contents, or every field in its range (R45). -/
abbrev WheelEntry.InRange (v : Variant) (e : WheelEntry) : Prop :=
  e = wheelZero ∨
    (e.axle.val < v.axles ∧ (e.tick = 1 ∨ e.tick = 2 ∨ e.tick = 4 ∨ e.tick = 8) ∧ within 20 200 e.teeth
      ∧ within 1500 4000 e.circumference)

/-- A curve's x field: unused, or at most its limit (R46). -/
abbrev xInRange (hi : Nat) (x : Option Nat) : Prop := x.getD 0 ≤ hi

/-- A LOAD_CURVE point: the power-on contents, or in range (R46). -/
abbrev LoadPoint.InRange (p : LoadPoint) : Prop :=
  p = { x := none, gain := 0 } ∨ (xInRange 1500 p.x ∧ within 100 1200 p.gain)

/-- A SLIP_BANDS band: the power-on contents, or in range (R46). -/
abbrev SlipBand.InRange (b : SlipBand) : Prop :=
  b = { x := none, release := 0, reapply := 0, releaseDecel := 0 } ∨
    (xInRange 40000 b.x ∧ within 40 400 b.release ∧ within 10 390 b.reapply ∧ within 2000 20000 b.releaseDecel)

/-- A VALVE_CURVE point in range (R46). -/
abbrev ValvePoint.InRange (p : ValvePoint) : Prop := xInRange 1500 p.x ∧ p.pulse ≤ 255

/-- A POLICY entry of a kind: an allowed class, and a set mask on NOTED alone (R47). -/
abbrev PolicyEntry.InRange (k : FaultKind) (p : PolicyEntry) : Prop :=
  p.cls ∈ allowedClasses k ∧ (p.mask = true → p.cls = .noted)

/-- Every entry of every writable table holds its power-on contents or values in its ranges (R41 to R47). -/
structure TablesInRange (v : Variant) (t : Tables) : Prop where
  global : ∀ i : Fin 8, within (globalRange i.val).1 (globalRange i.val).2 (t.global.nth i)
  axle : ∀ a : Fin 3, (t.axle.nth a).InRange
  timing : ∀ a : Fin 3, (t.timing.nth a).InRange
  aux : ∀ a : Fin 3, (t.aux.nth a).InRange
  wheelMap : ∀ c : Fin 6, (t.wheelMap.nth c).InRange v
  loadCurve : ∀ i : Fin 24, (t.loadCurve.nth i).InRange
  slipBands : ∀ i : Fin 18, (t.slipBands.nth i).InRange
  valveCurve : ∀ i : Fin 48, (t.valveCurve.nth i).InRange
  policy : ∀ i : Fin 16, (t.policy.nth i).InRange (kindOfPolicy i.val)

/-- Every mapped channel exists on the variant and names a present axle of it (R49, R58). -/
abbrev ReferencesHold (v : Variant) (t : Tables) : Prop :=
  ∀ c : Chan, t.mapped c = true →
    c.val < v.channels ∧ (t.axleOf c).val < v.axles ∧ t.axlePresent (t.axleOf c) = true

/-! ## Queues and places (R28, R33, R172, R174) -/

/-- The forward FIFOs and the request queue keep to their sizes, and no more than 12 places are reserved (R28, R172). -/
abbrev QueuesBounded (s : State) : Prop :=
  s.fifos.down.length ≤ 12 ∧ s.fifos.up.length ≤ 12 ∧ s.management.queue.length ≤ 4 ∧ s.management.reserved ≤ 12

/-- The number of the requests whose answer waits for the commit check. -/
abbrev deferredCommits (s : State) : Nat := bit s.control.commit.isSome

/-- The number of the requests whose answer waits for the end of a calibration. -/
abbrev deferredZeros (s : State) : Nat := (allChans.map fun c => bit (s.chan.nth c).zeroRequest.isSome).sum

/-- The number of requests in service. -/
abbrev inService (s : State) : Nat :=
  match s.management.responder with
  | .serving _ => 1
  | .idle => 0

/-- The reserved count is the sum of the four figures of R174. -/
abbrev PlacesCounted (s : State) : Prop :=
  s.management.reserved =
    s.management.queue.length + inService s + (deferredCommits s + deferredZeros s) + s.upstream.responses.length

/-! ## The fault list and the lamp (R163, R169) -/

/-- At most 16 entries, no two with the same kind and locus, every count 1 to 255 (R163). -/
structure FaultListSound (list : List FaultEntry) : Prop where
  size : list.length ≤ 16
  distinct : list.Pairwise fun e f => ¬ (e.kind = f.kind ∧ e.locus = f.locus)
  counts : ∀ e ∈ list, within 1 255 e.count

/-- The lamp is the one the part state and the fault list give, and the pins follow it (R169). -/
structure LampSound (s : State) : Prop where
  lamp : s.reporter.lamp = deriveLamp s.control.part s.monitor.list
  pinR : s.reporter.lampR = (s.reporter.lamp == .red)
  pinA : s.reporter.lampA = (s.reporter.lamp == .amber)

/-- An entry whose condition-present flag is set is of a condition kind whose owner answers that it is present (R162, R163). -/
abbrev ConditionsTrue (s : State) : Prop :=
  ∀ e ∈ s.monitor.list, e.present = true → conditionPresent s e.kind e.locus = true

/-! ## Speeds, reference, targets (R65, R84, R110) -/

/-- Speeds, decelerations, captures, Vref, slips, measured pressures and offsets lie in their ranges (R65, R84, R118). -/
structure ValuesInRange (s : State) : Prop where
  speed : ∀ c : Chan, ∀ v, (s.wheel.nth c).speed = some v → v ≤ 40000
  decel : ∀ c : Chan, -30000 ≤ (s.wheel.nth c).decel ∧ (s.wheel.nth c).decel ≤ 30000
  vref : ∀ v, s.reference.vref = some v → v ≤ 40000
  slip : ∀ c : Chan, s.reference.slip.nth c ≤ 1000
  measured : ∀ c : Chan, ∀ p, (s.chan.nth c).measured = some p → p ≤ 1500
  offset : ∀ c : Chan, (s.chan.nth c).offset ≤ 50
  /-- a base stands with both stamps (R65, R70) -/
  stamps : ∀ c : Chan, (s.wheel.nth c).base.isSome = true →
    (s.wheel.nth c).lastEdge.isSome = true ∧ (s.wheel.nth c).lastSample.isSome = true
  /-- a base's capture is below 2^w, the turn of the channel's capture counter (R65, R69) -/
  capture : ∀ c : Chan, ∀ b, (s.wheel.nth c).base = some b → b.capture < 2 ^ widthBits (s.tables.wheelMap.nth c).width

/-- Every target lies within its axle's P_max (R110). -/
abbrev TargetsBounded (s : State) : Prop :=
  ∀ c : Chan, s.demand.target.nth c ≤ (s.tables.axle.nth (s.tables.axleOf c)).pMax

/-- Vref, the last update stamp, the zero-since stamp, standstill and its timer agree as R84 says. -/
structure ReferenceSound (r : Reference) : Prop where
  together : r.vref.isSome = r.lastUpdate.isSome
  zeroSince : r.zeroSince.isSome = (r.vref == some 0)
  standstill : r.standstill = true → r.vref = some 0
  timer : r.timer.isSome = (r.vref == some 0 && !r.standstill)

/-! ## The part state and the channels (R52, R118, R120, R123, R142) -/

/-- What a channel's state may be in a part state: VACANT exactly where unmapped; YIELDED alone outside SERVICE, DEGRADED and
BACKUP; YIELDED or ZEROING alone in BACKUP (R120). -/
abbrev stateAllowed (part : PartState) (isMapped : Bool) (st : ChanState) : Prop :=
  (st = .vacant ↔ isMapped = false) ∧
    (part.modulating = false → st = .vacant ∨ st = .yielded ∨ (st = .zeroing ∧ part = .backup))

/-- The accumulator, the zero timer and the zero request stand in ZEROING, and only there (R118). -/
abbrev zeroAgrees (x : Channel) : Prop :=
  x.zeroAcc.isSome = (x.state == .zeroing) ∧ x.zeroTimer.isSome = (x.state == .zeroing)
    ∧ x.zeroRequest.isSome = (x.state == .zeroing)

/-- The dump timer runs in DUMP, and only there (R121, R126). -/
abbrev dumpAgrees (x : Channel) : Prop := x.dumpTimer.isSome = true → x.state = .dump

/-- The part state, the commit in flight, the channels' states, the timers that run and the commands that wait agree. -/
structure ControlSound (s : State) : Prop where
  /-- a commit is in flight in VERIFY, and only there (R52, R57, R59) -/
  commit : s.control.commit.isSome = (s.control.part == .verify)
  /-- the channels' states fit the part state and WHEEL_MAP (R120, R123) -/
  states : ∀ c : Chan, stateAllowed s.control.part (s.tables.mapped c) (s.chan.nth c).state
  /-- what a calibration needs stands in ZEROING alone (R118) -/
  zeroing : ∀ c : Chan, zeroAgrees (s.chan.nth c)
  /-- the dump timer runs in DUMP alone (R126) -/
  dumping : ∀ c : Chan, dumpAgrees (s.chan.nth c)
  /-- the latch of a channel is no bar to control unless it is set: a channel with a latch is not in control (R133) -/
  latched : ∀ c : Chan, (s.chan.nth c).latch.isEmpty = false →
    (s.chan.nth c).state = .yielded ∨ (s.chan.nth c).state = .vacant
  /-- the cycle timers run in SERVICE, DEGRADED and BACKUP alone, for present axles (R142) -/
  cycles : ∀ a : Axle, (s.scheduler.cycle.nth a).isSome = true →
    s.control.part.committed = true ∧ s.tables.axlePresent a = true
  /-- the deadlines run in SERVICE, DEGRADED and BACKUP alone (R77, R78, R102, R131) -/
  deadlines : s.control.part.committed = false →
    s.demand.deadline1 = none ∧ s.demand.deadline2 = none ∧
      ∀ c : Chan, (s.wheel.nth c).deadline1 = none ∧ (s.wheel.nth c).deadline2 = none ∧
        (s.chan.nth c).deadline1 = none ∧ (s.chan.nth c).deadline2 = none
  /-- in COLD, LOADING and VERIFY no command but the purge's YIELD 0 waits (R30) -/
  waiting : s.control.part.committed = false →
    ∀ c : Chan, ∀ x, s.downstream.slots.nth c = some x → x.command = yieldZero
  /-- the targets are 0 outside SERVICE and DEGRADED, and those of unmapped channels always (R110) -/
  targets : ∀ c : Chan, (s.control.part.modulating = false ∨ s.tables.mapped c = false) → s.demand.target.nth c = 0
  /-- in SERVICE, DEGRADED and BACKUP the tables are such that the commit check passes (R58, R59) -/
  checked : s.control.part.committed = true → commitCheck s.tables = none

/-- The held-out set is the set of the mapped channels held out, the partner holds stand exactly where R134 sets them, and the
part is in DEGRADED rather than SERVICE exactly when the set is not empty; no latch stands in VERIFY (R57, R61, R134, R135). -/
structure HeldOutSound (s : State) : Prop where
  reported : ∀ c : Chan, s.control.heldOut.nth c = (s.tables.mapped c && (s.chan.nth c).isHeldOut)
  partner : ∀ c : Chan, (s.chan.nth c).partnerHold = partnerWanted s c
  degraded : s.control.part.modulating = true → (s.control.part = .degraded ↔ ∃ c : Chan, s.control.heldOut.nth c = true)
  verify : s.control.part = .verify → ∀ c : Chan, (s.chan.nth c).latch.isEmpty = true

/-- A FILL that waits, in a channel's command slot or in its written pending slot, belongs to a channel in FOLLOW or REAPPLY; in the
command slot, with the part in SERVICE or DEGRADED (R145, R148). -/
structure FillsGuarded (s : State) : Prop where
  slot : ∀ c : Chan, ∀ x, s.downstream.slots.nth c = some x → x.command.mode = .fill →
    s.control.part.modulating = true ∧ ((s.chan.nth c).state = .follow ∨ (s.chan.nth c).state = .reapply)
  written : ∀ c : Chan, (s.scheduler.slots.nth c).written = true → (s.scheduler.slots.nth c).pendingCommand.mode = .fill →
    (s.chan.nth c).state = .follow ∨ (s.chan.nth c).state = .reapply

/-- A command's pulse lies within an axle's limits: 255 or from the min pulse up to one less than the period for FILL and VENT, 0
for CLOSE and YIELD (R129, R147). -/
def PulseLimited (e : TimingEntry) (x : Command) : Prop :=
  match x.mode with
  | .fill | .vent => x.pulse = 255 ∨ (e.minPulse ≤ x.pulse ∧ x.pulse < e.period)
  | .close | .yield => x.pulse = 0

/-- Every command that waits in a command slot lies within its axle's limits, and so do the commands of the scheduler's slots in
SERVICE, DEGRADED and BACKUP, where the tables stand still (R142, R147). -/
structure PulsesLimited (s : State) : Prop where
  waiting : ∀ c : Chan, ∀ x, s.downstream.slots.nth c = some x → PulseLimited (s.tables.timing.nth (s.tables.axleOf c)) x.command
  scheduled : s.control.part.committed = true → ∀ c : Chan,
    PulseLimited (s.tables.timing.nth (s.tables.axleOf c)) (s.scheduler.slots.nth c).slotA ∧
    PulseLimited (s.tables.timing.nth (s.tables.axleOf c)) (s.scheduler.slots.nth c).slotB

/-- An IDLE responder leaves no request in the queue (R175). -/
abbrev ResponderServes (s : State) : Prop := s.management.responder = .idle → s.management.queue = []

/-- Nothing waits for a port whose transmitter is IDLE, and no command waits for a channel the variant lacks (R30, R35). -/
structure PortsServed (s : State) : Prop where
  down : s.port.d.tx = .idle → (∀ c : Chan, s.downstream.slots.nth c = none) ∧ s.fifos.down = []
  up : s.port.u.tx = .idle → s.upstream.responses = [] ∧ s.upstream.notice = none ∧ s.fifos.up = []
  lacking : ∀ c : Chan, s.variant.channels ≤ c.val → s.downstream.slots.nth c = none ∧ s.tables.mapped c = false
  /-- the channel last served is one of the variant's (R30) -/
  served : s.downstream.lastServed.val < s.variant.channels

/-! ## Vocabulary of the statements -/

/-- A frame arrives at a port with the byte `b`: the port's receiver is in BODY with the frame's header, and `b` completes the
payload and the two check bytes (R1, R8). -/
structure Arrives (p : Port) (b : Byte) (f : Frame) (s : State) : Prop where
  size : f.payload.length = f.header.length.toNat
  body : ∃ rest, (s.port.sel p).rx = .body f.header rest ∧
    rest ++ [b] = f.payload ++ [f.check.extractLsb' 8 8, f.check.extractLsb' 0 8]

/-- The tests of R11 but the duplicate test: the check, the kind, the length. -/
abbrev Intact (f : Frame) : Prop :=
  f.check = crc (headerBytes f.header ++ f.payload) ∧ kindOf f.header.kind ≠ .invalid
    ∧ lengthPermitted (kindOf f.header.kind) f.header.length.toNat = true

/-- The state with a port's receiver back in READY, as it stands when a frame has arrived (R8). -/
def State.received (s : State) (p : Port) : State := s.modifyPort p fun x => { x with rx := .ready true }

/-- The receiver's fourth test fails: a DEMAND at port U from the node ROLES names, with the last accepted sequence (R13). -/
abbrev DuplicateDemand (p : Port) (h : Header) (s : State) : Prop :=
  p = .u ∧ kindOf h.kind = .demand ∧ s.tables.roles.nth 0 ≠ 0 ∧ h.source = s.tables.roles.nth 0
    ∧ s.demand.lastSeq = some h.sequence

/-- A frame arrives, passes the receiver's tests, and is not addressed to the part: it reaches the sorter's test 2 (R11, R19). -/
structure Sorted (p : Port) (b : Byte) (f : Frame) (s : State) : Prop where
  arrives : Arrives p b f s
  intact : Intact f
  fresh : ¬ DuplicateDemand p f.header s
  elsewhere : f.header.dest ≠ s.address

/-- A frame arrives, passes the receiver's tests, and is addressed to the part: the sorter's test 1 takes it (R11, R19). -/
structure Own (p : Port) (b : Byte) (f : Frame) (s : State) : Prop where
  arrives : Arrives p b f s
  intact : Intact f
  fresh : ¬ DuplicateDemand p f.header s
  here : f.header.dest = s.address

/-- A channel's present WHEEL_MAP entry has this wheel node and sensor index (R24). -/
abbrev WheelMatches (t : Tables) (source : Node) (index : Byte) (c : Chan) : Prop :=
  t.mapped c = true ∧ (t.wheelMap.nth c).wheelNode = source ∧ (t.wheelMap.nth c).sensorIndex.setWidth 8 = index

/-- A channel's present WHEEL_MAP entry has this valve node and valve index (R24). -/
abbrev ValveMatches (t : Tables) (source : Node) (index : Byte) (c : Chan) : Prop :=
  t.mapped c = true ∧ (t.wheelMap.nth c).valveNode = source ∧ (t.wheelMap.nth c).valveIndex.setWidth 8 = index

/-- A NODE_FAULT of a source, an index and a code concerns a channel (R24). -/
abbrev NodeMatches (t : Tables) (source : Node) (index code : Byte) (c : Chan) : Prop :=
  if code = 0 then WheelMatches t source index c ∨ ValveMatches t source index c
  else if code = 3 then WheelMatches t source index c
  else ValveMatches t source index c

/-- A LOAD_SAMPLE of a source concerns an axle (R25). -/
abbrev LoadMatches (v : Variant) (t : Tables) (source : Node) (a : Axle) : Prop :=
  a.val < v.axles ∧ t.axlePresent a = true ∧ (t.axle.nth a).loadNode ≠ 0 ∧ (t.axle.nth a).loadNode = source

/-- The sorter's test 3 takes no copy of the frame and reports nothing of it (R23, R24, R25). A valve command and the invalid
kind do not reach the test. -/
def NotCopied (v : Variant) (t : Tables) (p : Port) (f : Frame) : Prop :=
  match kindOf f.header.kind with
  | .mgmtRequest | .mgmtResponse | .statusNotice | .general => True
  | .demand => p = .d ∨ t.roles.nth 0 = 0
  | .doorNotice => p = .d ∨ t.roles.nth 1 = 0 ∨ f.header.source ≠ t.roles.nth 1
  | .wheelSample => p = .u ∨ ∀ c, ¬ WheelMatches t f.header.source (f.payload.getD 0 0) c
  | .pressureSample => p = .u ∨ ∀ c, ¬ ValveMatches t f.header.source (f.payload.getD 0 0) c
  | .loadSample => p = .u ∨ ∀ a : Axle, a.val = (f.payload.getD 0 0).toNat → ¬ LoadMatches v t f.header.source a
  | .nodeFault => p = .u ∨ ∀ c, ¬ NodeMatches t f.header.source (f.payload.getD 0 0) (f.payload.getD 1 0) c
  | .valveCommand | .invalid => False

/-- Nothing waits for a port's transmitter. -/
def NothingWaits (p : Port) (s : State) : Prop :=
  match p with
  | .d => (∀ c : Chan, s.downstream.slots.nth c = none) ∧ s.fifos.down = []
  | .u => s.upstream.responses = [] ∧ s.upstream.notice = none ∧ s.fifos.up = []

/-- A response has been placed: behind the ones that wait, while port U is SENDING; else it waits alone or is in flight (R33,
R35). -/
def Placed (r : Response) (s t : State) : Prop :=
  match s.port.u.tx with
  | .sending _ => t.upstream.responses = s.upstream.responses ++ [r]
  | .idle =>
    s.upstream.responses = [] →
      t.upstream.responses = [r] ∨
      (t.upstream.responses = [] ∧
        t.port.u.tx = .sending (originate r.dest 10 s.address s.port.u.origin (responsePayload r)))

/-- Port D's command slots hold YIELD 0 for each mapped channel, but for the one command that an IDLE port D has taken at once
(R31). -/
def Purged (s t : State) : Prop :=
  match s.port.d.tx with
  | .sending _ =>
    ∀ c : Chan, t.downstream.slots.nth c = if s.tables.mapped c = true then some (s.tables.addressed c yieldZero) else none
  | .idle =>
    ∀ c : Chan, (s.tables.mapped c = false → t.downstream.slots.nth c = none) ∧
      (s.tables.mapped c = true → t.downstream.slots.nth c = some (s.tables.addressed c yieldZero) ∨
        (t.downstream.slots.nth c = none ∧
          ∃ n, t.port.d.tx = .sending (originate (s.tables.wheelMap.nth c).valveNode 6 s.address n
            [(s.tables.wheelMap.nth c).valveIndex.setWidth 8, 3, 0])))

/-- The destination lies in an enabled window of the direction the frame travels: entries 0 to 3 down from port U, entries 4 to 7
up from port D (R26, R27). -/
abbrev Passes (p : Port) (dest : Node) (t : Tables) : Prop :=
  ∃ i : Fin 8, (match p with
      | .u => i.val < 4
      | .d => 4 ≤ i.val) ∧
    (t.forward.nth i).base.toNat ≤ dest.toNat ∧ dest.toNat ≤ (t.forward.nth i).limit.toNat

/-- A timer runs and part time has reached its expiry. -/
abbrev Due (s : State) (timer : Option Time) (e : Time) : Prop := timer = some e ∧ elapsed s.now e < 2 ^ 31

/-- A curve is well formed: its used entries come first, at least one is used, and their x values rise strictly (R46). -/
def WellFormedCurve (xs : List (Option Nat)) : Prop :=
  ∃ (used : List Nat) (n : Nat), xs = used.map some ++ List.replicate n none ∧ used ≠ [] ∧ used.Pairwise (· < ·)

/-- The commands that can change which channels are held out: those that can raise a CHANNEL-class fault, those that can begin or
end a calibration, and RESTORE_CHANNEL (R61, R133, R135, R136). A frame's last byte may come as either of two commands (log 6). -/
def ChangesHeldOut (c : Instr) : Prop :=
  c = .restoreChannel ∨ c = .zero ∨ (∃ p b, c = .frameArrival p b ∨ c = .byteReceived p b) ∨
  ∃ ch, c = .wheelDeadline2Expiry ch ∨ c = .pressureDeadline2Expiry ch ∨ c = .dumpTimerExpiry ch ∨ c = .settleWindowEnd ch ∨
    c = .zeroTimerExpiry ch

/-- The commands that can raise a PART-class fault: a frame's arrival and the loss of the demand (R47, R62). -/
def RaisesPart (c : Instr) : Prop := c = .demandDeadline2Expiry ∨ ∃ p b, c = .frameArrival p b ∨ c = .byteReceived p b

/-- The tables fail a check of R58 that records this table id, entry index and reason. A curve's examination is curveShape's. -/
def Fails (t : Tables) (f : CheckFailure) : Prop :=
  let at' := fun (table index reason : Nat) => f = { table := table, index := index, reason := reason }
  (at' 2 0 1 ∧ t.roles.nth 0 = 0) ∨
  (at' 7 255 6 ∧ ∀ c : Chan, t.mapped c = false) ∨
  (∃ a : Axle, t.axlePresent a = true ∧
    ((at' 4 a.val 2 ∧ (t.axle.nth a).pMax < (t.axle.nth a).pFull) ∨
     (at' 5 a.val 3 ∧ t.timing.nth a = timingZero) ∨
     (at' 5 a.val 4 ∧ (t.timing.nth a).period ≤ (t.timing.nth a).minPulse) ∨
     (at' 6 a.val 3 ∧ t.aux.nth a = auxZero) ∨
     (at' 6 a.val 5 ∧ (t.axle.nth a).pMax < (t.aux.nth a).stopHold) ∨
     curveShape .loadCurve ((List.range 8).map fun i => (t.loadCurve.nth (Fin.ofNat 24 (8 * a.val + i))).x) (8 * a.val) = some f ∨
     curveShape .slipBands ((List.range 6).map fun i => (t.slipBands.nth (Fin.ofNat 18 (6 * a.val + i))).x) (6 * a.val) = some f ∨
     ∃ i, i < 6 ∧ at' 9 (6 * a.val + i) 13 ∧ (t.slipBands.nth (Fin.ofNat 18 (6 * a.val + i))).x ≠ none ∧
       (t.slipBands.nth (Fin.ofNat 18 (6 * a.val + i))).release ≤ (t.slipBands.nth (Fin.ofNat 18 (6 * a.val + i))).reapply + 10)) ∨
  (∃ c : Chan, t.mapped c = true ∧
    (curveShape .valveCurve ((List.range 8).map fun i => (t.valveCurve.nth (Fin.ofNat 48 (8 * c.val + i))).x) (8 * c.val) = some f ∨
     ∃ o : Chan, o.val < c.val ∧ t.mapped o = true ∧
       let x := t.wheelMap.nth o
       let y := t.wheelMap.nth c
       (at' 7 c.val 7 ∧ x.wheelNode = y.wheelNode ∧ x.sensorIndex = y.sensorIndex) ∨
       (at' 7 c.val 8 ∧ x.valveNode = y.valveNode ∧ x.valveIndex = y.valveIndex) ∨
       (at' 7 c.val 9 ∧ x.axle = y.axle ∧ x.side = y.side)))

/-- The place of a failure in the order of the examination: by table, whose ids rise along the chain of R39, then by entry index,
then by reason; in SLIP_BANDS by axle first, the margins of a run after its shape (R58). -/
def examined (f : CheckFailure) : Nat :=
  f.table * 1048576 + (if f.table = 9 then f.index / 6 * 131072 + (if f.reason = 13 then 65536 else 0) else 0)
    + f.index * 16 + f.reason

/-- A channel's speed is admitted as a candidate (R87), read from a row of speed records. -/
abbrev Admitted (s : State) (wheel : Row 6 SpeedRecord) (c : Chan) (v : Nat) : Prop :=
  s.tables.mapped c = true ∧ (wheel.nth c).speed = some v ∧ (wheel.nth c).stale = false
    ∧ (s.chan.nth c).latch.wheelLost = false

/-- The part has a report of that kind at that time. -/
abbrev reportOf (k : FaultKind) (l : Locus) (t : Time) (h : Option Header) : FaultReport :=
  { kind := k, locus := l, time := t, header := h }

/-- Commands carried out one after another, stopping at the first that does not answer a next state. -/
def execAll : List Instr → State → Host.Outcome State Fault Refusal
  | [], s => .next s
  | c :: cs, s =>
    match exec c s with
    | .next t => execAll cs t
    | .fault r => .fault r
    | .refused r => .refused r

/-- The responder at the end of a service, with the queue it finds (R175). -/
def nextService (m : Management) : Management :=
  match m.queue with
  | [] => { m with responder := .idle }
  | r :: rest => { m with responder := .serving r, queue := rest }

/-- The request of a row is in service and its service completes (R175). -/
abbrev Serving (row : RequestRow) (r : Request) (s : State) : Prop :=
  s.management.responder = .serving r ∧ requestRow r = row

/-- The table and index of a write or a read exist on the variant: ids 0 to 11, indices below the entry count (R38). -/
abbrev EntryExists (v : Variant) (id : TableId) (i : Nat) (r : Request) : Prop :=
  (r.args.getD 0 0).toNat = tableNumber id ∧ (r.args.getD 1 0).toNat = i ∧ i < entryCount v id

/-- The reference checks of R49 for a write of bytes to an entry, against the tables as they stand. -/
def ReferencesAllow (v : Variant) (t : Tables) (id : TableId) (i : Nat) (bytes : List Byte) : Prop :=
  let present := fun n : Nat => ∃ a : Axle, a.val = n ∧ n < v.axles ∧ t.axlePresent a = true
  let first := (bytes.getD 0 0).toNat
  match id with
  | .wheelMap => 128 ≤ first → present (first / 16 % 4)
  | .timing | .aux => present i
  | .loadCurve => present (i / 8)
  | .slipBands => present (i / 6)
  | .valveCurve => ∃ c : Chan, c.val = i / 8 ∧ t.mapped c = true
  | .axle => first < 128 → ∀ c : Chan, t.mapped c = true → (t.axleOf c).val ≠ i
  | .directory | .global | .roles | .forward | .policy => True

/-- The locus exists on the variant. -/
def LocusExists (v : Variant) (l : Locus) : Prop :=
  match l with
  | .channel c => c.val < v.channels
  | .axle a => a.val < v.axles
  | .none | .port _ | .direction _ => True

/-- The kinds left in a channel's latch set when those whose condition is not present are removed (R136). -/
def remaining (s : State) (c : Chan) : LatchSet :=
  { wheelLost := (s.chan.nth c).latch.wheelLost && (s.wheel.nth c).lost
    wheelImplausible := false
    pressureLost := (s.chan.nth c).latch.pressureLost && (s.chan.nth c).lost
    pressureTrack := false
    dumpTimeout := false
    nodeReported := (s.chan.nth c).latch.nodeReported && s.monitor.node.nth c }

/-- How far a channel stands behind the one last served in the round-robin order of the variant: 0 for the next one (R30). -/
def turn (v : Variant) (last c : Chan) : Nat := (c.val + v.channels - 1 - last.val) % v.channels

end Sys2Proof.Machine
end

