-- ==== Sys2Proof/Certificates/Slice0/Obligations.lean ====
section
/-! DEFINITION. The statements for the provers, in the order of OBLIGATIONS.json: the whole machine, the resets, the ports, the
sorter, the timers, the commit, the requests, the units, the invariants. -/

open Sys2Proof Sys2Proof.Machine

/-! ## The whole machine -/

/-- A step takes the command at the front of the queue and is exec of it on the state with the queue's rest. On an empty queue one
millisecond passes and the due timers' events are queued: the model's choice (log 3). -/
def Obligations.StepTakesTheFront : Prop :=
  (∀ (c : Instr) (rest : List Instr) (s : State), s.pending = c :: rest → step s = exec c { s with pending := rest }) ∧
  (∀ s : State, s.pending = [] →
    step s = .next { s with now := s.now + 1, pending := dueEvents { s with now := s.now + 1 } })

/-- Every command answers a next state in every state (the model's choice, log 5 and log 29), keeps the queue and the variant, and,
unless it is a reset, part time and the node address (R17, R18). -/
def Obligations.EveryCommandCompletes : Prop :=
  ∀ (c : Instr) (s : State), ∃ t : State, exec c s = .next t ∧ t.pending = s.pending ∧ t.variant = s.variant ∧
    ((∀ k, c ≠ .powerOnReset k ∧ c ≠ .pinReset k) → t.now = s.now ∧ t.address = s.address)

/-- The tables and the written flag change by TABLE_WRITE and power-on reset alone, and a channel's pressure offset by these and the
end of its own calibration (R38, R40, R52, R118 to R120, R138). -/
def Obligations.ContentsChangeOnlyByWriteOrPowerOn : Prop :=
  ∀ (c : Instr) (s t : State), exec c s = .next t → c ≠ .tableWrite → (∀ k, c ≠ .powerOnReset k) →
    t.tables = s.tables ∧ t.control.written = s.control.written ∧
    ∀ ch : Chan, c ≠ .zeroTimerExpiry ch → (t.chan.nth ch).offset = (s.chan.nth ch).offset

/-- Only the events the spec names change the part state: the resets, an accepted TABLE_WRITE, RELEASE or COMMIT, the completion of
the commit check, between SERVICE and DEGRADED an event that can change the held-out set, and into BACKUP one that can raise a PART-
class fault. A frame's last byte may come as BYTE_RECEIVED (log 6) (R47, R53, R55, R56, R59, R61, R62, R64). -/
def Obligations.PartStateEdges : Prop :=
  ∀ (c : Instr) (s t : State), TablesInRange s.variant s.tables → exec c s = .next t →
    t.control.part = s.control.part ∨
    (match t.control.part with
      | .cold => ∃ k, c = .powerOnReset k ∨ c = .pinReset k
      | .loading =>
        (c = .tableWrite ∧ s.control.part ≠ .verify) ∨ (c = .release ∧ s.control.part.committed = true) ∨
        (c = .commitCheckComplete ∧ s.control.part = .verify) ∨ (∃ k, c = .pinReset k)
      | .verify => c = .commit ∧ (s.control.part = .loading ∨ s.control.part = .backup)
      | .service => (s.control.part = .degraded ∧ ChangesHeldOut c) ∨ (c = .commitCheckComplete ∧ s.control.part = .verify)
      | .degraded => (s.control.part = .service ∧ ChangesHeldOut c) ∨ (c = .commitCheckComplete ∧ s.control.part = .verify)
      | .backup => s.control.part.modulating = true ∧ RaisesPart c)

/-! ## The resets -/

/-- POWER_ON_RESET: every block at its power-on state. The reset's STATUS_NOTICE of COLD and RED is already in flight on port U,
whose origin count is 1: the model's reading (log 25). State.reset is what it leaves with the straps at 0; the straps and the
variant there are the model's choice (log 1, log 2) (R15, R17, R18, R35, R36, R40, R64, R66, R85, R98, R119, R141, R163, R169, R170,
R172). -/
def Obligations.PowerOnReset : Prop :=
  (∀ (k : BitVec 3) (s : State), ∃ t : State, exec (.powerOnReset k) s = .next t ∧
    t.address.toNat = 48 + k.toNat ∧ t.now = 0 ∧ t.variant = s.variant ∧
    t.fifos = { down := [], up := [] } ∧ t.upstream = { responses := [], notice := none } ∧
    t.downstream.slots = Row.fill 6 none ∧ t.downstream.lastServed.val + 1 = s.variant.channels ∧
    t.port.d = { rx := .waitIdle, tx := .idle, origin := 0 } ∧ t.port.u.rx = .waitIdle ∧ t.port.u.origin = 1 ∧
    t.port.u.tx = .sending (originate 0 8 t.address 0 [2, 0, 0, 0, 255, 255, 0, 0]) ∧
    t.tables = tablesPowerOn ∧
    t.control = { part := .cold, cause := none, written := false, commit := none, heldOut := Row.fill 6 false } ∧
    t.wheel = Row.fill 6 speedInitial ∧ t.reference = referenceInitial ∧ t.demand = demandInitial ∧
    t.chan = Row.fill 6 (channelInitial .vacant 0) ∧ t.scheduler = schedulerInitial ∧ t.monitor = monitorInitial ∧
    t.management = managementInitial ∧ t.reporter = { lamp := .red, lampR := true, lampA := false, timer := 100 }) ∧
  exec (.powerOnReset 0) State.reset = .next State.reset

/-- PIN_RESET: as power-on, but the tables, the written flag and the pressure offsets are kept; the part is in LOADING if the
written flag is set, and mapped channels are YIELDED. The reset's STATUS_NOTICE is already in flight on port U, whose origin count
is 1: the model's reading (log 25) (R15, R17, R18, R35, R36, R40, R64, R66, R85, R98, R119, R141, R163, R169, R170, R172). -/
def Obligations.PinReset : Prop :=
  ∀ (k : BitVec 3) (s : State), ∃ t : State, exec (.pinReset k) s = .next t ∧
    t.address.toNat = 48 + k.toNat ∧ t.now = 0 ∧ t.variant = s.variant ∧
    t.fifos = { down := [], up := [] } ∧ t.upstream = { responses := [], notice := none } ∧
    t.downstream.slots = Row.fill 6 none ∧ t.downstream.lastServed.val + 1 = s.variant.channels ∧
    t.port.d = { rx := .waitIdle, tx := .idle, origin := 0 } ∧ t.port.u.rx = .waitIdle ∧ t.port.u.origin = 1 ∧
    (∃ payload, t.port.u.tx = .sending (originate 0 8 t.address 0 payload) ∧
      payload.length = 8 ∧ payload.head? = some (if s.control.written = true then 0x12 else 0x02)) ∧
    t.tables = s.tables ∧
    t.control = { part := if s.control.written = true then .loading else .cold, cause := none
                  written := s.control.written, commit := none, heldOut := Row.fill 6 false } ∧
    t.wheel = Row.fill 6 speedInitial ∧ t.reference = referenceInitial ∧ t.demand = demandInitial ∧
    (∀ c : Chan, t.chan.nth c =
      channelInitial (if s.tables.mapped c = true then .yielded else .vacant) (s.chan.nth c).offset) ∧
    t.scheduler = schedulerInitial ∧ t.monitor = monitorInitial ∧ t.management = managementInitial ∧
    t.reporter = { lamp := .red, lampR := true, lampA := false, timer := BitVec.ofNat 32 (s.tables.global.nth 6) }

/-- The contents of every table after a power-on reset, byte by byte as a read returns them; a pin reset keeps every table; the
DIRECTORY is fixed (R40). -/
def Obligations.TablesAtReset : Prop :=
  (∀ (k : BitVec 3) (s t : State), exec (.powerOnReset k) s = .next t →
    (∀ i < 8, (t.tables.readBytes t.variant .global i).map BitVec.toNat =
      [[15, 160], [46, 224], [5, 220], [0, 50], [0, 60], [0, 60], [0, 100], [1, 144]].getD i []) ∧
    (∀ i < 4, t.tables.readBytes t.variant .roles i = [0]) ∧
    (∀ i < 8, t.tables.readBytes t.variant .forward i = if i = 0 ∨ i = 4 then [0, 63] else [63, 0]) ∧
    (∀ i < 3, t.tables.readBytes t.variant .axle i = List.replicate 8 0 ∧
      t.tables.readBytes t.variant .timing i = List.replicate 8 0 ∧ t.tables.readBytes t.variant .aux i = List.replicate 7 0) ∧
    (∀ i < 6, t.tables.readBytes t.variant .wheelMap i = List.replicate 7 0) ∧
    (∀ i < 24, t.tables.readBytes t.variant .loadCurve i = [255, 255, 0, 0]) ∧
    (∀ i < 18, t.tables.readBytes t.variant .slipBands i = [255, 255, 0, 0, 0, 0, 0, 0]) ∧
    (∀ i < 48, t.tables.readBytes t.variant .valveCurve i = [255, 255, 0]) ∧
    (∀ i < 16, (t.tables.readBytes t.variant .policy i).map BitVec.toNat =
      [[0, 0, 0, 0, 0, 2, 2, 0, 1, 0, 1, 1, 1, 1, 0, 0].getD i 3, 0])) ∧
  (∀ (k : BitVec 3) (s t : State), exec (.pinReset k) s = .next t → t.tables = s.tables) ∧
  (∀ (x y : Tables) (v : Variant) (i : Nat), x.readBytes v .directory i = y.readBytes v .directory i)

/-! ## The ports -/

/-- The receiver's states and transitions on good bytes and on line idle. A byte that ends a frame, has a bad length or is a
fragment, and line idle inside a frame, are FRAME_ARRIVAL, BAD_LENGTH and LINE_ERROR under another name: the model's reading of the
two rows (log 6, log 7) (R8, R9, R10). -/
def Obligations.ReceiverStates : Prop :=
  ∀ (p : Port) (b : Byte) (s : State),
    ((s.port.sel p).rx = .waitIdle ∨ (s.port.sel p).rx = .discard →
      exec (.byteReceived p b) s = .next s ∧ exec (.receiverIdle p) s = .next (setReceiver p (.ready false) s)) ∧
    (∀ a, (s.port.sel p).rx = .ready a → exec (.receiverIdle p) s = .next (setReceiver p (.ready false) s)) ∧
    ((s.port.sel p).rx = .ready false →
      exec (.byteReceived p b) s = .next (setReceiver p (.header b none) s)) ∧
    (∀ b0, (s.port.sel p).rx = .header b0 none →
      exec (.byteReceived p b) s = .next (setReceiver p (.header b0 (some b)) s)) ∧
    (∀ b0 b1, (s.port.sel p).rx = .header b0 (some b1) → (b.extractLsb' 0 4).toNat ≤ 12 →
      ∃ h : Header, headerBytes h = [b0, b1, b] ∧
        exec (.byteReceived p b) s = .next (setReceiver p (.body h []) s)) ∧
    (∀ h rest, (s.port.sel p).rx = .body h rest → rest.length + 1 < h.length.toNat + 2 →
      exec (.byteReceived p b) s = .next (setReceiver p (.body h (rest ++ [b])) s)) ∧
    (∀ r, setReceiver p r s = { s with port := s.port.put p { s.port.sel p with rx := r } }) ∧
    ((s.port.sel p).rx = .ready true → exec (.byteReceived p b) s = exec (.lineError p .fragment) s) ∧
    (∀ b0 b1, (s.port.sel p).rx = .header b0 b1 → exec (.receiverIdle p) s = exec (.lineError p .truncated) s) ∧
    (∀ h rest, (s.port.sel p).rx = .body h rest → exec (.receiverIdle p) s = exec (.lineError p .truncated) s) ∧
    (∀ b0 b1, (s.port.sel p).rx = .header b0 (some b1) → 13 ≤ (b.extractLsb' 0 4).toNat →
      exec (.byteReceived p b) s = exec (.badLength p b) s) ∧
    (∀ h rest, (s.port.sel p).rx = .body h rest → rest.length + 1 = h.length.toNat + 2 →
      exec (.byteReceived p b) s = exec (.frameArrival p b) s)

/-- A receiver in READY that is given the bytes of any whole frame, one by one, ends with the arrival of exactly that frame: the
header, the payload and the check as sent, whatever they hold. The last byte may come as FRAME_ARRIVAL (log 6) (R1, R8, R16). -/
def Obligations.ReceiverRebuildsFrames : Prop :=
  ∀ (p : Port) (f : Frame) (s : State), (s.port.sel p).rx = .ready false →
    f.payload.length = f.header.length.toNat → f.payload.length ≤ 12 →
    execAll ((frameBytes f).map (Instr.byteReceived p)) s = .next (arrive p f (s.received p)) ∧
    execAll ((frameBytes f).dropLast.map (Instr.byteReceived p) ++ [.frameArrival p (f.check.extractLsb' 0 8)]) s =
      .next (arrive p f (s.received p))

/-- Line errors: each is reported once as LINK_CRC with the port as locus, with the header where all three of its bytes had been
received, and the receiver goes to DISCARD, or to READY on a truncation (R9). -/
def Obligations.LineErrors : Prop :=
  ∀ (p : Port) (s : State),
    (∀ a, (s.port.sel p).rx = .ready a →
      exec (.lineError p .badStopBit) s =
        .next (report (reportOf .linkCrc (.port p) s.now none) (setReceiver p .discard s))) ∧
    (∀ b0 b1, (s.port.sel p).rx = .header b0 b1 →
      exec (.lineError p .badStopBit) s =
        .next (report (reportOf .linkCrc (.port p) s.now none) (setReceiver p .discard s)) ∧
      exec (.lineError p .truncated) s =
        .next (report (reportOf .linkCrc (.port p) s.now none) (setReceiver p (.ready false) s))) ∧
    (∀ h rest, (s.port.sel p).rx = .body h rest →
      exec (.lineError p .badStopBit) s =
        .next (report (reportOf .linkCrc (.port p) s.now (some h)) (setReceiver p .discard s)) ∧
      exec (.lineError p .truncated) s =
        .next (report (reportOf .linkCrc (.port p) s.now (some h)) (setReceiver p (.ready false) s))) ∧
    ((s.port.sel p).rx = .ready true →
      exec (.lineError p .fragment) s =
        .next (report (reportOf .linkCrc (.port p) s.now none) (setReceiver p .discard s)))

/-- A length field of 13 to 15: the header bytes are discarded, LINK_FORMAT is reported with them as the frame's header, and the
receiver goes to DISCARD, where bytes are ignored until the line has been idle (R10). -/
def Obligations.BadLength : Prop :=
  ∀ (p : Port) (b0 b1 b : Byte) (s : State),
    ((s.port.sel p).rx = .header b0 (some b1) → 13 ≤ (b.extractLsb' 0 4).toNat →
      ∃ h : Header, headerBytes h = [b0, b1, b] ∧
        exec (.badLength p b) s =
          .next (report (reportOf .linkFormat (.port p) s.now (some h)) (setReceiver p .discard s))) ∧
    ((s.port.sel p).rx = .discard →
      exec (.byteReceived p b) s = .next s ∧ exec (.receiverIdle p) s = .next (setReceiver p (.ready false) s))

/-- A frame's arrival: the check, the kind, the length and the duplicate test in this order; the first that fails decides, with at
most one report; a frame that passes goes to the sorter (R11). -/
def Obligations.ArrivalTests : Prop :=
  ∀ (p : Port) (b : Byte) (f : Frame) (s : State), Arrives p b f s →
    (f.check ≠ crc (headerBytes f.header ++ f.payload) →
      exec (.frameArrival p b) s =
        .next (report (reportOf .linkCrc (.port p) s.now (some f.header)) (s.received p))) ∧
    (f.check = crc (headerBytes f.header ++ f.payload) → kindOf f.header.kind = .invalid →
      exec (.frameArrival p b) s =
        .next (report (reportOf .linkFormat (.port p) s.now (some f.header)) (s.received p))) ∧
    (f.check = crc (headerBytes f.header ++ f.payload) → kindOf f.header.kind ≠ .invalid →
      lengthPermitted (kindOf f.header.kind) f.payload.length = false →
      exec (.frameArrival p b) s =
        .next (report (reportOf .linkFormat (.port p) s.now (some f.header)) (s.received p))) ∧
    (Intact f → DuplicateDemand p f.header s → exec (.frameArrival p b) s = .next (s.received p)) ∧
    (Intact f → ¬ DuplicateDemand p f.header s → exec (.frameArrival p b) s = .next (sortFrame p f (s.received p)))

/-- TRANSMISSION_COMPLETE. Port D: the next command slot in round robin is taken, else the head of the down FIFO, sent as it was
received. Port U: the head of the response FIFO, which frees its place; else the waiting notice; else the head of the up FIFO, sent
as it was received. Where nothing waits the transmitter is IDLE (R14, R15, R16, R30, R33, R34, R35). -/
def Obligations.ArbiterChoices : Prop :=
  (∀ (f : Frame) (s : State), s.port.d.tx = .sending f → s.downstream.lastServed.val < s.variant.channels →
    ∃ t : State, exec (.transmissionComplete .d) s = .next t ∧
      ((∃ c x, c.val < s.variant.channels ∧ s.downstream.slots.nth c = some x ∧
          (∀ c' : Chan, c'.val < s.variant.channels → s.downstream.slots.nth c' ≠ none →
            turn s.variant s.downstream.lastServed c ≤ turn s.variant s.downstream.lastServed c') ∧
          t = { s with
                port := { s.port with
                  d := { s.port.d with
                    tx := .sending (originate x.node 6 s.address s.port.d.origin
                      [x.index.setWidth 8, byte (modeCode x.command.mode), byte x.command.pulse])
                    origin := s.port.d.origin + 1 } }
                downstream := { slots := s.downstream.slots.put c none, lastServed := c } }) ∨
       ((∀ c : Chan, c.val < s.variant.channels → s.downstream.slots.nth c = none) ∧
          ((∃ g rest, s.fifos.down = g :: rest ∧
              t = { s with port := { s.port with d := { s.port.d with tx := .sending g } }
                           fifos := { s.fifos with down := rest } }) ∨
           (s.fifos.down = [] ∧ t = { s with port := { s.port with d := { s.port.d with tx := .idle } } }))))) ∧
  (∀ (f : Frame) (s : State), s.port.u.tx = .sending f →
    ∃ t : State, exec (.transmissionComplete .u) s = .next t ∧
      (∀ r rest, s.upstream.responses = r :: rest →
        t = { s with
              port := { s.port with
                u := { s.port.u with
                  tx := .sending (originate r.dest 10 s.address s.port.u.origin
                    (r.code :: r.tag :: byte (resultCode r.result) :: r.data))
                  origin := s.port.u.origin + 1 } }
              upstream := { s.upstream with responses := rest }
              management := { s.management with reserved := s.management.reserved - 1 } }) ∧
      (s.upstream.responses = [] → ∀ n, s.upstream.notice = some n →
        t = { s with
              port := { s.port with
                u := { s.port.u with
                  tx := .sending (originate 0 8 s.address s.port.u.origin (noticePayload n))
                  origin := s.port.u.origin + 1 } }
              upstream := { responses := [], notice := none } }) ∧
      (s.upstream.responses = [] → s.upstream.notice = none → ∀ g rest, s.fifos.up = g :: rest →
        t = { s with port := { s.port with u := { s.port.u with tx := .sending g } }
                     fifos := { s.fifos with up := rest } }) ∧
      (s.upstream.responses = [] → s.upstream.notice = none → s.fifos.up = [] →
        t = { s with port := { s.port with u := { s.port.u with tx := .idle } } }))


/-! ## The sorter -/

/-- A frame addressed to the part: any kind but MGMT_REQUEST is LINK_FORMAT; a MGMT_REQUEST from port D or from a source that is not
accepted is ROLE_SOURCE; an accepted one joins the request queue with a place reserved, or is taken at once by an idle responder, or
is refused with MGMT_OVERRUN (R20, R21, R37, R172, R173, R175). -/
def Obligations.OwnFrames : Prop :=
  ∀ (p : Port) (b : Byte) (f : Frame) (s : State), Own p b f s →
    (kindOf f.header.kind ≠ .mgmtRequest →
      exec (.frameArrival p b) s = .next (report (reportOf .linkFormat (.port p) s.now (some f.header)) (s.received p))) ∧
    (kindOf f.header.kind = .mgmtRequest →
      (p = .d ∨ ¬ (s.tables.roles.nth 2 = 0 ∨ s.tables.roles.nth 3 = 0 ∨ f.header.source = s.tables.roles.nth 2 ∨
          f.header.source = s.tables.roles.nth 3)) →
      exec (.frameArrival p b) s = .next (report (reportOf .roleSource (.port p) s.now (some f.header)) (s.received p))) ∧
    (kindOf f.header.kind = .mgmtRequest → p = .u →
      (s.tables.roles.nth 2 = 0 ∨ s.tables.roles.nth 3 = 0 ∨ f.header.source = s.tables.roles.nth 2 ∨
          f.header.source = s.tables.roles.nth 3) →
      ∃ r : Request, r.source = f.header.source ∧ r.code :: r.tag :: r.args = f.payload ∧
        (s.management.queue.length < 4 → s.management.reserved < 12 →
          (∀ q, s.management.responder = .serving q →
            exec (.frameArrival p b) s =
              .next { s.received .u with
                management := { queue := s.management.queue ++ [r], responder := .serving q
                                reserved := s.management.reserved + 1 } }) ∧
          (s.management.responder = .idle → s.management.queue = [] →
            exec (.frameArrival p b) s =
              .next { s.received .u with
                management := { queue := [], responder := .serving r, reserved := s.management.reserved + 1 } })) ∧
        (¬ (s.management.queue.length < 4 ∧ s.management.reserved < 12) →
          exec (.frameArrival p b) s =
            .next (report (reportOf .mgmtOverrun .none s.now (some f.header)) (s.received .u))))

/-- A VALVE_COMMAND not addressed to the part is neither copied nor forwarded, and ROLE_VALVE is reported with its port (R22). -/
def Obligations.ForeignValveCommand : Prop :=
  ∀ (p : Port) (b : Byte) (f : Frame) (s : State), Sorted p b f s → kindOf f.header.kind = .valveCommand →
    exec (.frameArrival p b) s = .next (report (reportOf .roleValve (.port p) s.now (some f.header)) (s.received p)) ∧
    (report (reportOf .roleValve (.port p) s.now (some f.header)) (s.received p)).fifos.sel (directionFrom p) <:+
      s.fifos.sel (directionFrom p)

/-- Test 4: a frame in no enabled window of its direction is dropped and nothing else happens; one in a window joins the tail of its
FIFO, begins transmission at once where the far port is idle and nothing waits, or is discarded with FWD_OVERRUN where the FIFO
holds 12. A frame of which no copy is taken has this effect alone, whatever its kind. A DEMAND from the wrong node is reported
before it joins its FIFO: the model's choice (log 34) (R19, R23 to R28, R30, R35). -/
def Obligations.Forwarding : Prop :=
  (∀ (p : Port) (f : Frame) (s : State),
    (¬ Passes p f.header.dest s.tables → forwardFrame p f s = s) ∧
    (Passes p f.header.dest s.tables → 12 ≤ (s.fifos.sel (directionFrom p)).length →
      forwardFrame p f s = report (reportOf .fwdOverrun (.direction (directionFrom p)) s.now (some f.header)) s) ∧
    (Passes p f.header.dest s.tables → (s.fifos.sel (directionFrom p)).length < 12 →
      (∀ g, (s.port.sel p.other).tx = .sending g →
        forwardFrame p f s =
          { s with
            fifos := match p with
              | .u => { s.fifos with down := s.fifos.down ++ [f] }
              | .d => { s.fifos with up := s.fifos.up ++ [f] } }) ∧
      ((s.port.sel p.other).tx = .idle → NothingWaits p.other s →
        forwardFrame p f s = s.modifyPort p.other fun x => { x with tx := .sending f }))) ∧
  (∀ (p : Port) (b : Byte) (f : Frame) (s : State), Sorted p b f s → NotCopied s.variant s.tables p f →
    exec (.frameArrival p b) s = .next (forwardFrame p f (s.received p))) ∧
  (∀ (b : Byte) (f : Frame) (s : State), Sorted .u b f s → kindOf f.header.kind = .demand → s.tables.roles.nth 0 ≠ 0 →
    f.header.source ≠ s.tables.roles.nth 0 →
    exec (.frameArrival .u b) s =
      .next (forwardFrame .u f (report (reportOf .roleSource (.port .u) s.now (some f.header)) (s.received .u))))

/-! ## The fault monitor and the reporter -/

/-- A report at the fault monitor: a masked NOTED one is not recorded; any other is a repeat, a new entry at the tail, a new entry
in the room of the first acknowledged NOTED entry, or, for a class that is not NOTED, of the first NOTED one, or is refused and sets
the overflow flag; the first report to make an entry fills an absent first-fault record; then the class acts, and the lamp follows
(R158, R159, R160, R164, R165, R166, R169). -/
def Obligations.ReportRecorded : Prop :=
  ∀ (r : FaultReport) (s : State),
    let quiet := match r.kind, r.locus with
      | .roleValve, .port p => s.monitor.quiet.put p (some (r.time + 1000))
      | _, _ => s.monitor.quiet
    let policy := fun k : FaultKind => s.tables.policy.nth (Fin.ofNat 16 (k.number - 1))
    let noted := fun e : FaultEntry => (policy e.kind).cls = .noted
    let same := fun e : FaultEntry => e.kind = r.kind ∧ e.locus = r.locus
    let fresh : FaultEntry :=
      { kind := r.kind, locus := r.locus, first := r.time, last := r.time, count := 1, acknowledged := false
        present := r.kind.isCondition }
    ((policy r.kind).cls = .noted → (policy r.kind).mask = true →
      report r s = { s with monitor := { s.monitor with quiet := quiet } }) ∧
    (¬ ((policy r.kind).cls = .noted ∧ (policy r.kind).mask = true) →
      ∃ (list : List FaultEntry) (created refused : Bool),
        let m : Monitor :=
          { s.monitor with
            quiet := quiet, list := list, overflow := s.monitor.overflow || refused
            first :=
              if s.monitor.first = none ∧ created = true then
                some { kind := r.kind, locus := r.locus, stamp := r.time, header := r.header }
              else s.monitor.first }
        let acted := match (policy r.kind).cls, r.locus with
          | .noted, _ => { s with monitor := m }
          | .part, _ => partAction r.kind { s with monitor := m }
          | .channel, .channel c => channelAction r.kind c { s with monitor := m }
          | .channel, _ => { s with monitor := m }
        report r s = (if refused = true then acted else faultListChanged acted) ∧
        ((∃ e ∈ s.monitor.list, same e) → created = false ∧ refused = false ∧ list.length = s.monitor.list.length ∧
          ∀ (i : Nat) (e : FaultEntry), s.monitor.list[i]? = some e →
            list[i]? =
              if e.kind = r.kind ∧ e.locus = r.locus then
                some { e with last := r.time, count := min 255 (e.count + 1), acknowledged := false
                              present := e.present || r.kind.isCondition }
              else some e) ∧
        ((∀ e ∈ s.monitor.list, ¬ same e) →
          (s.monitor.list.length < 16 → created = true ∧ refused = false ∧ list = s.monitor.list ++ [fresh]) ∧
          (16 ≤ s.monitor.list.length →
            (∀ xs e ys, s.monitor.list = xs ++ e :: ys → e.acknowledged = true → noted e →
              (∀ x ∈ xs, ¬ (x.acknowledged = true ∧ noted x)) →
              created = true ∧ refused = false ∧ list = xs ++ ys ++ [fresh]) ∧
            ((∀ x ∈ s.monitor.list, ¬ (x.acknowledged = true ∧ noted x)) →
              ((policy r.kind).cls ≠ .noted → ∀ xs e ys, s.monitor.list = xs ++ e :: ys → noted e → (∀ x ∈ xs, ¬ noted x) →
                created = true ∧ refused = false ∧ list = xs ++ ys ++ [fresh]) ∧
              ((policy r.kind).cls = .noted ∨ (∀ x ∈ s.monitor.list, ¬ noted x) →
                created = false ∧ refused = true ∧ list = s.monitor.list)))))

/-- A CHANNEL-class action in SERVICE, DEGRADED and BACKUP on a mapped channel: the kind joins its latch set, the channel yields, a
calibration in progress is aborted and answered ABORTED, the partners of a TOGETHER axle are held, and the part is held out of
SERVICE. On any other channel and in any other state it does nothing (R61, R118, R133, R134, R135, R140). -/
def Obligations.ChannelClassAction : Prop :=
  ∀ (k : FaultKind) (c : Chan) (s : State),
    ((s.control.part.committed = false ∨ s.tables.mapped c = false) → channelAction k c s = s) ∧
    (s.control.part.committed = true → s.tables.mapped c = true → .channel ∈ allowedClasses k → ControlSound s →
      HeldOutSound s →
      (let t := channelAction k c s
       (t.chan.nth c).state = .yielded ∧ (t.chan.nth c).latch = (s.chan.nth c).latch.add k ∧
       (t.chan.nth c).zeroAcc = none ∧ (t.chan.nth c).zeroTimer = none ∧ (t.chan.nth c).zeroRequest = none ∧
       (t.chan.nth c).dumpTimer = none ∧ (t.chan.nth c).offset = (s.chan.nth c).offset ∧
       (∀ q, (s.chan.nth c).state = .zeroing → (s.chan.nth c).zeroRequest = some q →
         Placed { dest := q.source, code := 13, tag := q.tag, result := .aborted, data := [] } s t) ∧
       (∀ o : Chan, o ≠ c → s.tables.mapped o = true → s.tables.axleOf o = s.tables.axleOf c →
         (s.tables.axle.nth (s.tables.axleOf c)).fallback = .together →
         (t.chan.nth o).partnerHold = true ∧
           ((s.chan.nth o).partnerHold = false → (s.chan.nth o).state ≠ .zeroing → (t.chan.nth o).state = .yielded)) ∧
       (∀ o : Chan, s.tables.axleOf o ≠ s.tables.axleOf c → t.chan.nth o = s.chan.nth o) ∧
       t.control.heldOut.nth c = true ∧
       (s.control.part = .backup → t.control.part = .backup) ∧ (s.control.part ≠ .backup → t.control.part = .degraded) ∧
       t.tables = s.tables ∧ t.wheel = s.wheel ∧ t.reference = s.reference ∧ t.monitor = s.monitor ∧
       t.scheduler.cycle = s.scheduler.cycle))

/-- A PART-class action from SERVICE or DEGRADED enters BACKUP with the kind as cause: the purge, every mapped channel YIELDED but
one in ZEROING, every target 0, the lamp RED; cycle timers and latch sets stay. In any other state it does nothing (R31, R62, R113,
R123, R169). -/
def Obligations.PartClassAction : Prop :=
  ∀ (k : FaultKind) (s : State),
    (s.control.part.modulating = false → partAction k s = s) ∧
    (s.control.part.modulating = true →
      (let t := partAction k s
       t.control = { s.control with part := .backup, cause := some k } ∧ Purged s t ∧
       (∀ c : Chan, s.tables.mapped c = true → (s.chan.nth c).state ≠ .zeroing →
         (t.chan.nth c).state = .yielded ∧ (t.chan.nth c).dumpTimer =
           (if (s.chan.nth c).state = .dump then none else (s.chan.nth c).dumpTimer)) ∧
       (∀ c : Chan, (s.tables.mapped c = false ∨ (s.chan.nth c).state = .zeroing) → t.chan.nth c = s.chan.nth c) ∧
       (∀ c : Chan, (t.chan.nth c).latch = (s.chan.nth c).latch ∧ (t.chan.nth c).measured = (s.chan.nth c).measured) ∧
       t.demand = { s.demand with target := Row.fill 6 0 } ∧
       t.reporter = { s.reporter with lamp := .red, lampR := true, lampA := false } ∧
       t.scheduler.cycle = s.scheduler.cycle ∧ t.tables = s.tables ∧ t.wheel = s.wheel ∧ t.reference = s.reference ∧
       t.monitor = s.monitor))

/-- The reporter told of a change to the fault list or of the part state derives the lamp again, the pins follow it, and one notice
is placed, for the list only where the lamp changes. STATUS_PERIOD_TIMER_EXPIRY re-arms the timer by status_period and places a
notice of the state that stands, in place of a waiting one or at once on an idle port U; its eight bytes are those of R6 (R6, R34,
R35, R169, R170, R171). -/
def Obligations.LampAndNotices : Prop :=
  (∀ s : State,
    let amber : Prop := s.control.part = .degraded ∨
      (s.control.part = .service ∧ ∃ e ∈ s.monitor.list, e.acknowledged = false)
    let red : Prop := s.control.part ≠ .service ∧ s.control.part ≠ .degraded
    ∃ l : Lamp, (l = .red ↔ red) ∧ (l = .amber ↔ amber) ∧
      (s.reporter.lamp = l → faultListChanged s = s) ∧
      (s.reporter.lamp ≠ l → faultListChanged s = partStateChanged s) ∧
      (partStateChanged s).reporter = { s.reporter with lamp := l, lampR := decide (l = .red), lampA := decide (l = .amber) } ∧
      (∀ f, s.port.u.tx = .sending f →
        partStateChanged s =
          { s with reporter := (partStateChanged s).reporter
                   upstream := { s.upstream with notice := some { buildNotice s with lamp := l } } })) ∧
  (∀ (e : Time) (s : State), Due s (some s.reporter.timer) e →
    let s' := { s with reporter := { s.reporter with timer := e + BitVec.ofNat 32 (s.tables.global.nth 6) } }
    let code := fun c : Chan => chanCode (s.chan.nth c).state
    ∃ n : Notice,
      noticePayload n =
        [byte (16 * partCode s.control.part + lampCode s.reporter.lamp), byte (16 * code 0 + code 1), byte (16 * code 2 + code 3),
         byte (16 * code 4 + code 5), byte (s.reference.vref.getD 65535 / 256), byte (s.reference.vref.getD 65535),
         byte s.monitor.list.length,
         byte (bit s.demand.stopHold + 2 * bit s.reference.standstill + 4 * bit s.monitor.overflow)] ∧
      (∀ f, s.port.u.tx = .sending f →
        exec .statusPeriodTimerExpiry s = .next { s' with upstream := { s.upstream with notice := some n } }) ∧
      (s.port.u.tx = .idle → s.upstream.responses = [] →
        exec .statusPeriodTimerExpiry s =
          .next { s' with
            upstream := { s.upstream with notice := none }
            port := { s.port with
              u := { s.port.u with
                tx := .sending (originate 0 8 s.address s.port.u.origin (noticePayload n)), origin := s.port.u.origin + 1 } } }))


/-! ## Channel states, targets, the valve decision -/

/-- A channel enters a state: entering DUMP stamps dump-since and starts the dump timer, leaving DUMP stops it, entering YIELDED or
ZEROING drops the track check; the entry command is written and, in SERVICE, DEGRADED and BACKUP, replaces a waiting one; FOLLOW and
REAPPLY return the pending slot to unwritten. In SERVICE and DEGRADED the other channel of a YAW_LIMIT axle has its target computed
again, and where it changes, in FOLLOW or REAPPLY with a usable pressure, it makes the valve decision at once; every other target
and every other channel's slots stand. An entry into the state the channel is in does nothing (R29, R112, R113, R121, R130). -/
def Obligations.EnterState : Prop :=
  ∀ (c : Chan) (st : ChanState) (s : State), st ≠ .vacant →
    ((s.chan.nth c).state = st → enterState c st s = s) ∧
    ((s.chan.nth c).state ≠ st →
      (let t := enterState c st s
       let x := s.chan.nth c
       let entry : Option Command := match st with
         | .dump => some { mode := .vent, pulse := 255 }
         | .hold => some { mode := .close, pulse := 0 }
         | .yielded | .zeroing => some { mode := .yield, pulse := 0 }
         | .follow | .reapply | .vacant => none
       t.chan = s.chan.put c
         { x with
           state := st
           dumpSince := if st = .dump then some s.now else x.dumpSince
           dumpTimer :=
             if st = .dump then some (s.now + BitVec.ofNat 32 (s.tables.timing.nth (s.tables.axleOf c)).maxDump)
             else if x.state = .dump then none else x.dumpTimer
           trackRef := if st = .yielded ∨ st = .zeroing then none else x.trackRef
           trackCount := if st = .yielded ∨ st = .zeroing then 0 else x.trackCount } ∧
       (∀ y, entry = some y →
         (t.scheduler.slots.nth c).pendingCommand = y ∧ (t.scheduler.slots.nth c).written = true ∧
         (∀ f z, s.port.d.tx = .sending f → s.control.part.committed = true → s.downstream.slots.nth c = some z →
           t.downstream =
             { s.downstream with
               slots := s.downstream.slots.put c (some
                 { node := (s.tables.wheelMap.nth c).valveNode, index := (s.tables.wheelMap.nth c).valveIndex
                   command := y }) })) ∧
       (entry = none → (t.scheduler.slots.nth c) = { s.scheduler.slots.nth c with written := false }) ∧
       (t.scheduler.slots.nth c).active = (s.scheduler.slots.nth c).active ∧
       (t.scheduler.slots.nth c).activeCommand = (s.scheduler.slots.nth c).activeCommand ∧
       ((entry = none ∨ s.control.part.committed = false ∨ s.downstream.slots.nth c = none) →
         t.downstream = s.downstream ∧ t.port = s.port ∧ t.fifos = s.fifos) ∧
       t.demand.target.nth c = s.demand.target.nth c ∧
       (∀ o : Chan, o ≠ c →
         let told := s.control.part.modulating = true ∧ (s.tables.axle.nth (s.tables.axleOf c)).pair = .yawLimit ∧
           s.tables.otherChannel c = some o
         let passed := targetValue t o ≠ s.demand.target.nth o ∧
           ((s.chan.nth o).state = .follow ∨ (s.chan.nth o).state = .reapply) ∧ (s.chan.nth o).usable = true
         t.demand.target.nth o = (if told then targetValue t o else s.demand.target.nth o) ∧
         (told → passed →
           t.scheduler.slots.nth o = (valveDecision s.now o { t with scheduler := s.scheduler }).scheduler.slots.nth o) ∧
         (¬ (told ∧ passed) → t.scheduler.slots.nth o = s.scheduler.slots.nth o)) ∧
       t = { s with
             chan := t.chan, downstream := t.downstream, port := { s.port with d := t.port.d }
             fifos := { s.fifos with down := t.fifos.down }, scheduler := { s.scheduler with slots := t.scheduler.slots }
             demand := { s.demand with target := t.demand.target } }))

/-- The target of a mapped channel in five steps: the base from demand, P_full and gain; stop hold; P_max; the supply less its
margin; the yaw limit of the other channel under slip control. A recomputation in SERVICE and DEGRADED gives each listed channel its
target; a channel in FOLLOW or REAPPLY with a usable pressure, whose target has changed, makes the valve decision at once; nothing
else changes. In any other part state nothing is done (R105, R107, R110, R111, R113, R130). -/
def Obligations.Targets : Prop :=
  (∀ (s : State) (c : Chan),
    let a := s.tables.axleOf c
    let load := match s.demand.load.nth a, (s.tables.axle.nth a).staticLoad with
      | some l, _ => some l
      | none, n + 1 => some (n + 1)
      | none, 0 => (s.tables.loadUsed a).getLast?.map Prod.fst
    ∀ l, load = some l →
      let base := s.demand.demand.getD 0 * (s.tables.axle.nth a).pFull * interpolate (s.tables.loadUsed a) l / 1000000
      let held := if s.demand.stopHold = true then max base (s.tables.aux.nth a).stopHold else base
      let ceiling := min held (s.tables.axle.nth a).pMax
      let supplied := match (s.demand.supply.nth a).supply with
        | some p => min ceiling (p - (s.tables.aux.nth a).supplyMargin)
        | none => ceiling
      (∀ (o : Chan) (m : Nat), (s.tables.axle.nth a).pair = .yawLimit → s.tables.otherChannel c = some o →
        ((s.chan.nth o).state = .dump ∨ (s.chan.nth o).state = .hold ∨ (s.chan.nth o).state = .reapply) →
        (s.chan.nth o).measured = some m →
        targetValue s c = min supplied (m + (s.tables.aux.nth a).yawMargin)) ∧
      ((¬ ∃ (o : Chan) (m : Nat), (s.tables.axle.nth a).pair = .yawLimit ∧ s.tables.otherChannel c = some o ∧
        ((s.chan.nth o).state = .dump ∨ (s.chan.nth o).state = .hold ∨ (s.chan.nth o).state = .reapply) ∧
        (s.chan.nth o).measured = some m) →
        targetValue s c = supplied) ∧
      (∀ o : Chan, s.tables.otherChannel c = some o →
        s.tables.mapped o = true ∧ s.tables.axleOf o = a ∧ (s.tables.wheelMap.nth o).side ≠ (s.tables.wheelMap.nth c).side) ∧
      (∀ o : Chan, s.tables.mapped o = true → s.tables.axleOf o = a →
        (s.tables.wheelMap.nth o).side ≠ (s.tables.wheelMap.nth c).side → s.tables.otherChannel c ≠ none)) ∧
  (∀ (cs : List Chan) (s : State),
    (s.control.part.modulating = false → recompute cs s = s) ∧
    (s.control.part.modulating = true →
      (let t := recompute cs s
       (∀ c : Chan, t.demand.target.nth c = if c ∈ cs then targetValue s c else s.demand.target.nth c) ∧
       (∀ c : Chan,
         let passed := c ∈ cs ∧ targetValue s c ≠ s.demand.target.nth c ∧
           ((s.chan.nth c).state = .follow ∨ (s.chan.nth c).state = .reapply) ∧ (s.chan.nth c).stale = false
         (¬ passed → t.scheduler.slots.nth c = s.scheduler.slots.nth c) ∧
         (passed → (s.chan.nth c).measured ≠ none →
           t.scheduler.slots.nth c =
             (valveDecision s.now c { s with demand := { s.demand with target := t.demand.target } }).scheduler.slots.nth c)) ∧
       t = { s with demand := { s.demand with target := t.demand.target }
                    scheduler := { s.scheduler with slots := t.scheduler.slots } })))

/-- The valve decision: in DUMP VENT 255; in FOLLOW and REAPPLY, outside a settle window and with a measured pressure, a FILL or a
VENT whose pulse is the valve curve's value at the error, capped in REAPPLY, CLOSE 0 inside the deadband or below the min pulse, and
255 from the period on; else nothing is written. In the millisecond of a settle-until that still stands, the window has not ended:
the model's reading of R132 beside R129 (log 32) (R129, R132, R144). -/
def Obligations.ValveDecision : Prop :=
  ∀ (t : Time) (c : Chan) (s : State),
    let x := s.chan.nth c
    let e := s.tables.timing.nth (s.tables.axleOf c)
    let target := s.demand.target.nth c
    let fill := fun m : Nat =>
      let p := interpolate (s.tables.valveUsed c) (target - m)
      if x.state = .reapply then min p e.reapplyMax else p
    let vent := fun m : Nat => interpolate (s.tables.valveUsed c) (m - target)
    let writes := fun y : Command =>
      ((valveDecision t c s).scheduler.slots.nth c).pendingCommand = y ∧
        ((valveDecision t c s).scheduler.slots.nth c).written = true ∧
        ((valveDecision t c s).scheduler.slots.nth c).activeCommand = (s.scheduler.slots.nth c).activeCommand ∧
        valveDecision t c s =
          { s with scheduler := { s.scheduler with
              slots := s.scheduler.slots.put c ((valveDecision t c s).scheduler.slots.nth c) } }
    let controls := x.state = .follow ∨ x.state = .reapply
    let settles := ∃ u, x.settleUntil = some u ∧ (t = u ∨ 2 ^ 31 ≤ (t - u).toNat)
    (x.state = .dump → writes { mode := .vent, pulse := 255 }) ∧
    (x.state ≠ .dump → (¬ controls ∨ settles ∨ x.measured = none) → valveDecision t c s = s) ∧
    (controls → ¬ settles → ∀ m, x.measured = some m →
      (m + e.deadband < target →
        (fill m < e.minPulse → writes { mode := .close, pulse := 0 }) ∧
        (e.minPulse ≤ fill m → fill m < e.period → writes { mode := .fill, pulse := fill m }) ∧
        (e.minPulse ≤ fill m → e.period ≤ fill m → writes { mode := .fill, pulse := 255 })) ∧
      (target + e.deadband < m →
        (vent m < e.minPulse → writes { mode := .close, pulse := 0 }) ∧
        (e.minPulse ≤ vent m → vent m < e.period → writes { mode := .vent, pulse := vent m }) ∧
        (e.minPulse ≤ vent m → e.period ≤ vent m → writes { mode := .vent, pulse := 255 })) ∧
      (target ≤ m + e.deadband → m ≤ target + e.deadband → writes { mode := .close, pulse := 0 }))

/-- The one interpolation rule over used points of strictly rising x: the first y up to the first x, the last y from the last x on,
and between two points the lower y plus the quotient truncated toward zero, which lies between the two y values (R106). -/
def Obligations.Interpolation : Prop :=
  ∀ (points : List (Nat × Nat)) (x : Nat), (points.map Prod.fst).Pairwise (· < ·) →
    (∀ p, points.head? = some p → x ≤ p.1 → interpolate points x = p.2) ∧
    (∀ p, points.getLast? = some p → p.1 ≤ x → interpolate points x = p.2) ∧
    (∀ xs p q ys, points = xs ++ p :: q :: ys → p.1 ≤ x → x < q.1 →
      (interpolate points x : Int) =
        (p.2 : Int) + (((x : Int) - (p.1 : Int)) * ((q.2 : Int) - (p.2 : Int))).tdiv ((q.1 : Int) - (p.1 : Int)) ∧
      (p.2 < q.2 → p.2 ≤ interpolate points x ∧ interpolate points x < q.2) ∧
      (q.2 < p.2 → q.2 < interpolate points x ∧ interpolate points x ≤ p.2))

/-! ## The timers -/

/-- CYCLE_TIMER_EXPIRY, the boundary of an axle: the timer is set one period on; for each mapped channel of the axle the written
command becomes the active one, or else the repeat command of the channel's state is loaded; a FILL or a VENT opens the settle
window and starts or drops the track check; every active command is emitted into its command slot or sent at once (R29, R30, R132,
R142, R145, R146, R147). -/
def Obligations.Boundary : Prop :=
  ∀ (a : Axle) (e : Time) (s : State), Due s (s.scheduler.cycle.nth a) e →
    ∃ t : State, exec (.cycleTimerExpiry a) s = .next t ∧
      let timing := s.tables.timing.nth a
      let mine := fun c : Chan => s.tables.mapped c = true ∧ s.tables.axleOf c = a
      let chosen := fun c : Chan =>
        if (s.scheduler.slots.nth c).written = true then (s.scheduler.slots.nth c).pendingCommand
        else
          match (s.chan.nth c).state with
          | .dump => { mode := .vent, pulse := 255 : Command }
          | .yielded | .zeroing | .vacant => { mode := .yield, pulse := 0 }
          | .follow | .hold | .reapply => { mode := .close, pulse := 0 }
      let emitted := fun c : Chan =>
        { node := (s.tables.wheelMap.nth c).valveNode, index := (s.tables.wheelMap.nth c).valveIndex, command := chosen c : ValveCommand }
      t.scheduler.cycle = s.scheduler.cycle.put a (some (e + BitVec.ofNat 32 timing.period)) ∧
      (∀ c : Chan, mine c →
        (t.scheduler.slots.nth c).activeCommand = chosen c ∧ (t.scheduler.slots.nth c).written = false ∧
        ((s.scheduler.slots.nth c).written = true →
          (t.scheduler.slots.nth c).active ≠ (s.scheduler.slots.nth c).active ∧
          (t.scheduler.slots.nth c).pendingCommand = (s.scheduler.slots.nth c).activeCommand) ∧
        ((s.scheduler.slots.nth c).written = false →
          (t.scheduler.slots.nth c).active = (s.scheduler.slots.nth c).active ∧
          (t.scheduler.slots.nth c).pendingCommand = (s.scheduler.slots.nth c).pendingCommand) ∧
        t.chan.nth c =
          (match (chosen c).mode with
           | .fill =>
             { s.chan.nth c with
               settleUntil := some (e + BitVec.ofNat 32
                 ((if (chosen c).pulse = 255 then timing.period else (chosen c).pulse) + timing.lag))
               trackRef := match (s.chan.nth c).trackRef with
                 | some r => some r
                 | none => (s.chan.nth c).measured }
           | .vent =>
             { s.chan.nth c with
               settleUntil := some (e + BitVec.ofNat 32
                 ((if (chosen c).pulse = 255 then timing.period else (chosen c).pulse) + timing.lag))
               trackRef := none }
           | .close | .yield => s.chan.nth c) ∧
        (s.port.d.tx = .idle →
          t.downstream.slots.nth c = some (emitted c) ∨
          (t.downstream.slots.nth c = none ∧ t.downstream.lastServed = c ∧
            t.port.d.tx = .sending (originate (emitted c).node 6 s.address s.port.d.origin
              [(emitted c).index.setWidth 8, byte (modeCode (chosen c).mode), byte (chosen c).pulse])))) ∧
      (∀ c : Chan, ¬ mine c → t.scheduler.slots.nth c = s.scheduler.slots.nth c ∧ t.chan.nth c = s.chan.nth c) ∧
      (∀ f, s.port.d.tx = .sending f →
        t.port = s.port ∧ t.fifos = s.fifos ∧ t.downstream.lastServed = s.downstream.lastServed ∧
        ∀ c : Chan, (mine c → t.downstream.slots.nth c = some (emitted c)) ∧
          (¬ mine c → t.downstream.slots.nth c = s.downstream.slots.nth c)) ∧
      t = { s with scheduler := t.scheduler, chan := t.chan, downstream := t.downstream
                   port := { s.port with d := t.port.d }, fifos := { s.fifos with down := t.fifos.down } }

/-- SETTLE_WINDOW_END: settle-until becomes absent; in FOLLOW and REAPPLY a standing track reference is checked against the measured
pressure, the count rises or returns to 0, and the eighth unanswered fill reports PRESSURE_TRACK; in another state the check is
dropped and the count kept (R132). -/
def Obligations.SettleWindowEnd : Prop :=
  ∀ (c : Chan) (e : Time) (s : State), Due s (s.chan.nth c).settleUntil e →
    let x := s.chan.nth c
    let ended := fun n : Nat =>
      { s with chan := s.chan.put c { x with settleUntil := none, trackRef := none, trackCount := n } }
    let controls := x.state = .follow ∨ x.state = .reapply
    let risen := fun r : Nat => ∃ m, x.measured = some m ∧ r + 5 ≤ m
    (x.trackRef = none →
      exec (.settleWindowEnd c) s = .next { s with chan := s.chan.put c { x with settleUntil := none } }) ∧
    (∀ r, x.trackRef = some r →
      (¬ controls → exec (.settleWindowEnd c) s = .next (ended x.trackCount)) ∧
      (controls → risen r → exec (.settleWindowEnd c) s = .next (ended 0)) ∧
      (controls → ¬ risen r → x.trackCount + 1 < 8 → exec (.settleWindowEnd c) s = .next (ended (x.trackCount + 1))) ∧
      (controls → ¬ risen r → 8 ≤ x.trackCount + 1 →
        exec (.settleWindowEnd c) s =
          .next (report (reportOf .pressureTrack (.channel c) e none) (ended 0))))

/-- WHEEL_DEADLINE_1: the speed is stale, and a channel in DUMP or REAPPLY enters HOLD. DEMAND_DEADLINE_1: the demand is stale.
PRESSURE_DEADLINE_1: the pressure is stale, and a channel in FOLLOW or REAPPLY returns its pending slot to unwritten.
ROLE_VALVE_QUIET_TIMER: the condition ends and its entry's flag clears. Deadline 2 of a wheel, of the demand and of a pressure makes
the lost condition present, stops and is reported; the dump timer stops and is reported. An event is taken at its timer's expiry
time (log 22) (R77, R78, R102, R103, R125, R126, R131, R160). -/
def Obligations.DeadlineExpiries : Prop :=
  (∀ (c : Chan) (p : Port) (e : Time) (s : State),
    (Due s (s.wheel.nth c).deadline1 e →
      let aged := { s with wheel := s.wheel.put c { s.wheel.nth c with stale := true, deadline1 := none } }
      exec (.wheelDeadline1Expiry c) s =
        .next (if (s.chan.nth c).state = .dump ∨ (s.chan.nth c).state = .reapply then enterState c .hold aged else aged)) ∧
    (Due s s.demand.deadline1 e →
      exec .demandDeadline1Expiry s = .next { s with demand := { s.demand with stale := true, deadline1 := none } }) ∧
    (Due s (s.chan.nth c).deadline1 e →
      ∃ t : State, exec (.pressureDeadline1Expiry c) s = .next t ∧
        t = { s with chan := s.chan.put c { s.chan.nth c with stale := true, deadline1 := none }, scheduler := t.scheduler } ∧
        t.scheduler = { s.scheduler with
          slots :=
            if (s.chan.nth c).state = .follow ∨ (s.chan.nth c).state = .reapply then
              s.scheduler.slots.put c { s.scheduler.slots.nth c with written := false }
            else s.scheduler.slots }) ∧
    (Due s (s.monitor.quiet.sel p) e →
      exec (.roleValveQuietTimerExpiry p) s =
        .next { s with
          monitor := { s.monitor with
            quiet := s.monitor.quiet.put p none
            list := s.monitor.list.map fun x =>
              if x.kind = .roleValve ∧ x.locus = .port p then { x with present := false } else x } })) ∧
  (∀ (c : Chan) (e : Time) (s : State),
    (Due s (s.wheel.nth c).deadline2 e →
      exec (.wheelDeadline2Expiry c) s =
        .next (report (reportOf .wheelLost (.channel c) e none)
          { s with wheel := s.wheel.put c { s.wheel.nth c with lost := true, deadline2 := none } })) ∧
    (Due s s.demand.deadline2 e →
      exec .demandDeadline2Expiry s =
        .next (report (reportOf .demandLost .none e none)
          { s with demand := { s.demand with lost := true, deadline2 := none } })) ∧
    (Due s (s.chan.nth c).deadline2 e →
      exec (.pressureDeadline2Expiry c) s =
        .next (report (reportOf .pressureLost (.channel c) e none)
          { s with chan := s.chan.put c { s.chan.nth c with lost := true, deadline2 := none } })) ∧
    (Due s (s.chan.nth c).dumpTimer e →
      exec (.dumpTimerExpiry c) s =
        .next (report (reportOf .dumpTimeout (.channel c) e none)
          { s with chan := s.chan.put c { s.chan.nth c with dumpTimer := none } })))

/-- STANDSTILL_TIMER_EXPIRY: standstill is set and the timer stops; with the door open and a stop hold on a present axle, stop hold
becomes active, which recomputes every target. SUPPLY_TIMER_EXPIRY: the axle's supply becomes absent, its low condition stays, and
the targets of the axle's mapped channels are recomputed, without the supply limit (R90, R108, R110, R113, R115). -/
def Obligations.StandstillAndSupply : Prop :=
  (∀ (e : Time) (s : State), Due s s.reference.timer e →
    let s' := { s with reference := { s.reference with standstill := true, timer := none } }
    let holds := s.demand.doorOpen = true ∧ s.demand.stopHold = false ∧
      ∃ a : Axle, s.tables.axlePresent a = true ∧ (s.tables.aux.nth a).stopHold ≠ 0
    (¬ holds → exec .standstillTimerExpiry s = .next s') ∧
    (holds → exec .standstillTimerExpiry s =
      .next (recompute s.tables.mappedChans { s' with demand := { s.demand with stopHold := true } }))) ∧
  (∀ (a : Axle) (e : Time) (s : State), Due s (s.demand.supply.nth a).timer e →
    ∃ t : State, exec (.supplyTimerExpiry a) s = .next t ∧
      t.demand.supply = s.demand.supply.put a { supply := none, timer := none, low := (s.demand.supply.nth a).low } ∧
      (s.control.part.modulating = true → ∀ c : Chan, s.tables.mapped c = true → s.tables.axleOf c = a →
        t.demand.target.nth c = targetValue t c) ∧
      (∀ c : Chan, (s.control.part.modulating = false ∨ s.tables.mapped c = false ∨ s.tables.axleOf c ≠ a) →
        t.demand.target.nth c = s.demand.target.nth c ∧ t.scheduler.slots.nth c = s.scheduler.slots.nth c) ∧
      t = { s with demand := { s.demand with supply := t.demand.supply, target := t.demand.target }
                   scheduler := { s.scheduler with slots := t.scheduler.slots } })

/-- ZERO_TIMER_EXPIRY: the calibration ends. No sample: NO_SAMPLES. A mean of at most 50: it becomes the offset, OK with offset and
count. A mean above 50: the offset stands, ZERO_RANGE is reported, RANGE with mean and count, placed after the report and any notice of
its lamp change: the model's choice (log 36). The channel is YIELDED and is not tested for FOLLOW (R138, R186). -/
def Obligations.CalibrationEnds : Prop :=
  ∀ (c : Chan) (e : Time) (z : ZeroAccumulator) (q : Deferred) (s : State), Due s (s.chan.nth c).zeroTimer e →
    (s.chan.nth c).state = .zeroing → (s.chan.nth c).zeroAcc = some z → (s.chan.nth c).zeroRequest = some q →
    TablesInRange s.variant s.tables →
    let mean := z.sum / z.count
    let outcome : ResultCode := if z.count = 0 then .noSamples else if mean ≤ 50 then .ok else .range
    let figures := if z.count = 0 then [] else
      [byte (mean / 256), byte mean, byte (min 65535 z.count / 256), byte (min 65535 z.count)]
    ∃ t : State, exec (.zeroTimerExpiry c) s = .next t ∧
      (t.chan.nth c).state = .yielded ∧ (t.chan.nth c).zeroAcc = none ∧ (t.chan.nth c).zeroTimer = none ∧
      (t.chan.nth c).zeroRequest = none ∧ (t.chan.nth c).latch = (s.chan.nth c).latch ∧
      (t.chan.nth c).offset = (if z.count ≠ 0 ∧ mean ≤ 50 then mean else (s.chan.nth c).offset) ∧
      (∀ o : Chan, o ≠ c → t.chan.nth o = s.chan.nth o) ∧
      (let answered : Response := { dest := q.source, code := 13, tag := q.tag, result := outcome, data := figures }
       let reported := report (reportOf .zeroRange (.channel c) e none) s
       (∀ f, s.port.u.tx = .sending f → t.upstream.responses = s.upstream.responses ++ [answered]) ∧
       (outcome = .range → t.monitor = reported.monitor ∧ Placed answered reported t) ∧
       (outcome ≠ .range → t.monitor = s.monitor ∧ Placed answered s t)) ∧
      t.tables = s.tables ∧ t.wheel = s.wheel ∧ t.reference = s.reference ∧ t.scheduler.cycle = s.scheduler.cycle

/-! ## The configuration -/

/-- An entry into LOADING: the purge; every mapped channel YIELDED, with a calibration aborted and answered ABORTED; every cycle
timer and deadline stopped; speeds and pressures stale, latch sets, offsets and measured pressures kept; supplies absent, targets 0;
the lamp RED. Several ABORTED answers join in ascending order of the channels: the model's choice (log 13) (R31, R54, R68, R102,
R108, R113, R123, R140, R142). -/
def Obligations.EntryIntoLoading : Prop :=
  ∀ s : State,
    let t := enterLoading s
    Purged s t ∧ t.control.part = .loading ∧ t.control.cause = s.control.cause ∧ t.control.written = s.control.written ∧
    t.control.commit = s.control.commit ∧
    (∀ c : Chan, s.tables.mapped c = true →
      t.control.heldOut.nth c = (!(t.chan.nth c).latch.isEmpty || (t.chan.nth c).partnerHold)) ∧
    (∀ c : Chan,
      let x := s.chan.nth c
      let y := t.chan.nth c
      let aborts := s.tables.mapped c = true ∧ x.state = .zeroing
      y.state = (if s.tables.mapped c = true then .yielded else x.state) ∧ y.latch = x.latch ∧
      y.partnerHold = x.partnerHold ∧ y.offset = x.offset ∧ y.measured = x.measured ∧ y.stamp = x.stamp ∧
      y.lost = x.lost ∧ y.dumpSince = x.dumpSince ∧ y.stale = true ∧ y.deadline1 = none ∧ y.deadline2 = none ∧
      y.settleUntil = none ∧ y.dumpTimer = none ∧ y.zeroAcc = (if aborts then none else x.zeroAcc) ∧
      y.zeroTimer = (if aborts then none else x.zeroTimer) ∧ y.zeroRequest = (if aborts then none else x.zeroRequest)) ∧
    (∀ f, s.port.u.tx = .sending f →
      t.upstream.responses = s.upstream.responses ++ s.tables.mappedChans.filterMap fun c =>
        if (s.chan.nth c).state = .zeroing then
          (s.chan.nth c).zeroRequest.map fun q =>
            { dest := q.source, code := 13, tag := q.tag, result := .aborted, data := [] }
        else none) ∧
    (∀ c : Chan, t.wheel.nth c = { s.wheel.nth c with deadline1 := none, deadline2 := none, stale := true }) ∧
    t.demand =
      { s.demand with deadline1 := none, deadline2 := none, target := Row.fill 6 0, supply := t.demand.supply } ∧
    (∀ a : Axle, t.demand.supply.nth a = { s.demand.supply.nth a with supply := none, timer := none }) ∧
    t.scheduler.cycle = Row.fill 3 none ∧ t.reporter = { s.reporter with lamp := .red, lampR := true, lampA := false } ∧
    t.tables = s.tables ∧ t.reference = s.reference ∧ t.monitor = s.monitor ∧ t.fifos.up <:+ s.fifos.up ∧
    t.fifos.down <:+ s.fifos.down

/-- An entry into VERIFY: from BACKUP every command slot is emptied, from LOADING the slots stand; every cycle timer and deadline
stops; every latch set is empty and every partner hold clear, mapped channels YIELDED, a calibration aborted and answered ABORTED,
measured pressures and speeds absent, the reference at its initial values, targets 0, the lamp RED. Several ABORTED answers join in
ascending order of the channels: the model's choice (log 13) (R32, R57, R68, R85, R102, R108, R113, R123, R139, R140, R142). -/
def Obligations.EntryIntoVerify : Prop :=
  ∀ (k : CommitInFlight) (s : State),
    let t := enterVerify k s
    t.control.part = .verify ∧ t.control.commit = some k ∧ t.control.cause = s.control.cause ∧
    t.control.written = s.control.written ∧ (∀ c : Chan, t.control.heldOut.nth c = false) ∧
    t.downstream.slots = (if k.origin = .backup then Row.fill 6 none else s.downstream.slots) ∧ t.port.d = s.port.d ∧
    t.fifos.down = s.fifos.down ∧
    (∀ c : Chan,
      let x := s.chan.nth c
      let y := t.chan.nth c
      y.state = (if s.tables.mapped c = true then .yielded else x.state) ∧ y.latch.isEmpty = true ∧ y.partnerHold = false ∧
      y.offset = x.offset ∧ y.measured = none ∧ y.stamp = none ∧ y.lost = x.lost ∧ y.stale = true ∧ y.deadline1 = none ∧
      y.deadline2 = none ∧ y.settleUntil = none ∧
      (s.tables.mapped c = true → x.state = .zeroing → y.zeroAcc = none ∧ y.zeroTimer = none ∧ y.zeroRequest = none)) ∧
    (∀ f, s.port.u.tx = .sending f →
      t.upstream.responses = s.upstream.responses ++ s.tables.mappedChans.filterMap fun c =>
        if (s.chan.nth c).state = .zeroing then
          (s.chan.nth c).zeroRequest.map fun q =>
            { dest := q.source, code := 13, tag := q.tag, result := .aborted, data := [] }
        else none) ∧
    (∀ c : Chan, t.wheel.nth c =
      { s.wheel.nth c with base := none, speed := none, decel := 0, lastEdge := none, stale := true, deadline1 := none
                           deadline2 := none }) ∧
    t.reference = { vref := none, lastUpdate := none, zeroSince := none, standstill := false, timer := none
                    slip := Row.fill 6 0, decision := Row.fill 6 .inactive } ∧
    t.demand =
      { s.demand with deadline1 := none, deadline2 := none, target := Row.fill 6 0, supply := t.demand.supply } ∧
    (∀ a : Axle, t.demand.supply.nth a = { s.demand.supply.nth a with supply := none, timer := none }) ∧
    t.scheduler.cycle = Row.fill 3 none ∧ t.reporter = { s.reporter with lamp := .red, lampR := true, lampA := false } ∧
    t.tables = s.tables ∧ t.monitor = s.monitor

/-- COMMIT at the end of its service: accepted in LOADING, and in BACKUP at standstill with the cause's condition gone, it becomes
the commit in flight, the part enters VERIFY and no answer is placed; else MOVING, CAUSE_PRESENT or STATE. RELEASE: at standstill in
SERVICE, DEGRADED and BACKUP the part enters LOADING and it is answered OK; without standstill MOVING; in LOADING OK with no change;
in COLD and VERIFY STATE. That the entry's notice goes before RELEASE's OK on an idle port U is the model's reading (log 10) (R55,
R56, R57, R63, R177). -/
def Obligations.CommitAndRelease : Prop :=
  (∀ (r : Request) (s : State), Serving .commit r s →
    let verified := fun o : CommitOrigin => enterVerify { origin := o, request := { source := r.source, tag := r.tag } } s
    let taken := fun u : State => { u with management := nextService u.management }
    let cause := (s.control.cause = some .demandLost ∧ s.demand.lost = true) ∨
      (s.control.cause = some .roleValve ∧ (s.monitor.quiet.u ≠ none ∨ s.monitor.quiet.d ≠ none))
    (s.control.part = .loading → exec .commit s = .next (taken (verified .loading))) ∧
    (s.control.part = .backup → s.reference.standstill = false → exec .commit s = .next (answer r .moving [] s)) ∧
    (s.control.part = .backup → s.reference.standstill = true → cause → exec .commit s = .next (answer r .causePresent [] s)) ∧
    (s.control.part = .backup → s.reference.standstill = true → ¬ cause → exec .commit s = .next (taken (verified .backup))) ∧
    (s.control.part = .cold ∨ s.control.part = .verify ∨ s.control.part = .service ∨ s.control.part = .degraded →
      exec .commit s = .next (answer r .state [] s))) ∧
  (∀ (r : Request) (s : State), Serving .release r s →
    (s.control.part = .service ∨ s.control.part = .degraded ∨ s.control.part = .backup →
      (s.reference.standstill = true → exec .release s = .next (answer r .ok [] (enterLoading s))) ∧
      (s.reference.standstill = false → exec .release s = .next (answer r .moving [] s))) ∧
    (s.control.part = .loading → exec .release s = .next (answer r .ok [] s)) ∧
    (s.control.part = .cold ∨ s.control.part = .verify → exec .release s = .next (answer r .state [] s)))

/-- The commit check passes exactly the tables that meet every check of R58: a demand node; for each present axle its pressures,
timing, stop hold, load curve, bands and margins; a mapped channel; for each mapped channel its own sensor, valve and side, and its
valve curve. A failing check records a test that fails, and every other failing test stands later in the chain order: by table,
entry and reason, the margins of a run of bands after its shape. A curve's examination records nothing exactly for a well-formed
one; CURVE_EMPTY with the first entry, CURVE_GAP with the first used entry after an unused one, CURVE_ORDER with the first used
entry that does not rise; an entry that meets both is recorded as CURVE_GAP: the model's choice (log 35) (R39, R46, R58). -/
def Obligations.CommitCheck : Prop :=
  (∀ t : Tables,
    let points := fun a : Axle => (List.range 8).map fun i => (t.loadCurve.nth (Fin.ofNat 24 (8 * a.val + i))).x
    let bands := fun a : Axle => (List.range 6).map fun i => t.slipBands.nth (Fin.ofNat 18 (6 * a.val + i))
    let valves := fun c : Chan => (List.range 8).map fun i => (t.valveCurve.nth (Fin.ofNat 48 (8 * c.val + i))).x
    (commitCheck t = none ↔
      (t.roles.nth 0 ≠ 0 ∧
        (∀ a : Axle, t.axlePresent a = true →
          (t.axle.nth a).pFull ≤ (t.axle.nth a).pMax ∧ t.timing.nth a ≠ timingZero ∧
          (t.timing.nth a).minPulse < (t.timing.nth a).period ∧ t.aux.nth a ≠ auxZero ∧
          (t.aux.nth a).stopHold ≤ (t.axle.nth a).pMax ∧ WellFormedCurve (points a) ∧
          WellFormedCurve ((bands a).map SlipBand.x) ∧ ∀ b ∈ bands a, b.x ≠ none → b.reapply + 10 < b.release) ∧
        (∃ c : Chan, t.mapped c = true) ∧
        (∀ c : Chan, t.mapped c = true → WellFormedCurve (valves c) ∧
          ∀ o : Chan, o.val < c.val → t.mapped o = true →
            let x := t.wheelMap.nth o
            let y := t.wheelMap.nth c
            ¬ (x.wheelNode = y.wheelNode ∧ x.sensorIndex = y.sensorIndex) ∧
            ¬ (x.valveNode = y.valveNode ∧ x.valveIndex = y.valveIndex) ∧ ¬ (x.axle = y.axle ∧ x.side = y.side)))) ∧
    (t.roles.nth 0 = 0 → commitCheck t = some { table := 2, index := 0, reason := 1 }) ∧
    (∀ f, commitCheck t = some f → Fails t f ∧ ∀ g, Fails t g → g = f ∨ examined f < examined g)) ∧
  (∀ (id : TableId) (xs : List (Option Nat)) (start : Nat),
    let failure := fun (index reason : Nat) =>
      curveShape id xs start = some { table := tableNumber id, index := index, reason := reason }
    (curveShape id xs start = none ↔ WellFormedCurve xs) ∧
    ((∀ x ∈ xs, x = none) → failure start 10) ∧
    (∀ (used : List Nat) (n x : Nat) (rest : List (Option Nat)),
      xs = used.map some ++ List.replicate (n + 1) none ++ some x :: rest → used.Pairwise (· < ·) →
      failure (start + used.length + n + 1) 11) ∧
    (∀ (used : List Nat) (p x : Nat) (rest : List (Option Nat)),
      xs = (used ++ [p]).map some ++ some x :: rest → (used ++ [p]).Pairwise (· < ·) → x ≤ p →
      failure (start + used.length + 1) 12))

/-- COMMIT_CHECK_COMPLETE with a commit in flight. A pass: the part leaves VERIFY for SERVICE, the cause is none, the cycle timers
and the deadlines start, the slots are at their reset values, OK is placed, and NODE_REPORTED is raised, without a header, for every
mapped channel whose node-reported condition is present, in ascending order (the model's choice, log 13): with the class CHANNEL it
latches the channel and takes the part to DEGRADED. A fail: LOADING entered with its purge, which R32 does not name (log 33),
BAD_TABLE placed with table, index and reason, behind the entry's notice, the model's reading (log 10). The result is that of the
tables at the completion (log 23) (R59, R68, R102, R113, R123, R142, R153, R161). -/
def Obligations.CommitCheckCompletes : Prop :=
  ∀ (k : CommitInFlight) (s : State), s.control.part = .verify → s.control.commit = some k →
    (commitCheck s.tables = none → TablesInRange s.variant s.tables → ControlSound s →
      ∃ t : State, exec .commitCheckComplete s = .next t ∧ t.control.commit = none ∧ t.control.cause = none ∧
        (t.control.part = .service ∨ t.control.part = .degraded) ∧
        ((∀ c : Chan, s.tables.mapped c = true → s.monitor.node.nth c = false) → t.control.part = .service) ∧
        (let reported := fun c : Chan => s.tables.mapped c = true ∧ s.monitor.node.nth c = true
         let acts := (s.tables.policy.nth 13).cls = .channel
         t.monitor = ((allChans.filter fun c => decide (reported c)).foldl
           (fun u c => report (reportOf .nodeReported (.channel c) s.now none) u) s).monitor ∧
         (∀ c : Chan, (t.chan.nth c).latch =
           if reported c ∧ acts then { (s.chan.nth c).latch with nodeReported := true } else (s.chan.nth c).latch) ∧
         (HeldOutSound s → (t.control.part = .degraded ↔ acts ∧ ∃ c, reported c))) ∧
        Placed { dest := k.request.source, code := 4, tag := k.request.tag, result := .ok, data := [] } s t ∧
        (∀ a : Axle, t.scheduler.cycle.nth a =
          if s.tables.axlePresent a = true then some (s.now + BitVec.ofNat 32 (s.tables.timing.nth a).period) else none) ∧
        ((∀ c : Chan, (s.chan.nth c).stale = true) →
          ∀ c : Chan, t.scheduler.slots.nth c =
            { slotA := { mode := .close, pulse := 0 }, slotB := { mode := .close, pulse := 0 }, active := .a, written := false }) ∧
        (∀ c : Chan, s.tables.mapped c = true →
          t.wheel.nth c =
            { s.wheel.nth c with
              deadline1 := some (s.now + BitVec.ofNat 32 (s.tables.global.nth 4))
              deadline2 := some (s.now + BitVec.ofNat 32 (3 * s.tables.global.nth 4)) } ∧
          (t.chan.nth c).deadline1 = some (s.now + BitVec.ofNat 32 (s.tables.global.nth 5)) ∧
          (t.chan.nth c).deadline2 = some (s.now + BitVec.ofNat 32 (3 * s.tables.global.nth 5)) ∧
          t.demand.target.nth c = targetValue t c) ∧
        t.demand =
          { s.demand with
            deadline1 := some (s.now + BitVec.ofNat 32 (s.tables.global.nth 3))
            deadline2 := some (s.now + BitVec.ofNat 32 (3 * s.tables.global.nth 3)), target := t.demand.target } ∧
        t.tables = s.tables ∧ t.reference = s.reference) ∧
    (∀ f, commitCheck s.tables = some f →
      ∃ t : State, exec .commitCheckComplete s = .next t ∧ t.control = { (enterLoading s).control with commit := none } ∧
        Placed { dest := k.request.source, code := 4, tag := k.request.tag, result := .badTable
                 data := [byte f.table, byte f.index, byte f.reason] } (enterLoading s) t ∧
        t.chan = (enterLoading s).chan ∧ t.downstream = (enterLoading s).downstream ∧ t.demand = (enterLoading s).demand ∧
        t.scheduler = (enterLoading s).scheduler ∧ t.wheel = (enterLoading s).wheel ∧ t.tables = s.tables)

/-! ## The requests -/

/-- An answer at the end of a service: it joins the tail of the response FIFO, or begins transmission on an idle port U, which frees
its place; the responder takes the next request or is idle. It goes to the request's source with its code, its tag, the result's
code and the data (R7, R33, R35, R175, R176, R184). -/
def Obligations.AnswerPlaced : Prop :=
  (∀ (r : Request) (result : ResultCode) (data : List Byte) (s : State),
    (∀ f, s.port.u.tx = .sending f →
      answer r result data s =
        { s with
          upstream := { s.upstream with
            responses := s.upstream.responses ++
              [{ dest := r.source, code := r.code, tag := r.tag, result := result, data := data }] }
          management := nextService s.management }) ∧
    (s.port.u.tx = .idle → s.upstream.responses = [] →
      answer r result data s =
        { s with
          port := { s.port with
            u := { s.port.u with
              tx := .sending (originate r.source 10 s.address s.port.u.origin
                (r.code :: r.tag :: byte (resultCode result) :: data))
              origin := s.port.u.origin + 1 } }
          management := { nextService s.management with reserved := s.management.reserved - 1 } })) ∧
  [ResultCode.ok, .okClamped, .held, .badIndex, .readOnly, .order, .moving, .state, .badTable, .causePresent, .stale, .noEntry,
    .condition, .busy, .demand, .latched, .noSamples, .range, .aborted, .unknown].map resultCode = List.range 20

/-- Which event a request in service ends with: by its code and argument count, UNKNOWN for a code of 0 or 14 to 255 and for an
argument count its code does not take, TABLE_WRITE from two arguments on; UNKNOWN_REQUEST is answered UNKNOWN and changes nothing
else (R176). -/
def Obligations.UnknownRequests : Prop :=
  (∀ r : Request,
    let is := fun (code count : Nat) => r.code.toNat = code ∧ r.args.length = count
    (requestRow r = .dirRead ↔ is 1 1) ∧ (requestRow r = .tableWrite ↔ r.code.toNat = 2 ∧ 2 ≤ r.args.length) ∧
    (requestRow r = .tableRead ↔ is 3 2) ∧ (requestRow r = .commit ↔ is 4 0) ∧ (requestRow r = .release ↔ is 5 0) ∧
    (requestRow r = .partRead ↔ is 6 0) ∧ (requestRow r = .channelRead ↔ is 7 2) ∧ (requestRow r = .faultRead ↔ is 8 1) ∧
    (requestRow r = .firstRead ↔ is 9 0) ∧ (requestRow r = .faultClear ↔ is 10 3) ∧ (requestRow r = .firstClear ↔ is 11 0) ∧
    (requestRow r = .restoreChannel ↔ is 12 1) ∧ (requestRow r = .zero ↔ is 13 1)) ∧
  (∀ (r : Request) (s : State), Serving .unknown r s → exec .unknownRequest s = .next (answer r .unknown [] s))

/-- DIR_READ and TABLE_READ: OK with the descriptor's or the entry's bytes, else BAD_INDEX; the descriptors are those of the chain
(R38, R39, R178). -/
def Obligations.TableReads : Prop :=
  (∀ (r : Request) (s : State), Serving .dirRead r s →
    let n := (r.args.getD 0 0).toNat
    (n < 12 → exec .dirRead s = .next (answer r .ok (s.tables.readBytes s.variant .directory n) s)) ∧
    (12 ≤ n → exec .dirRead s = .next (answer r .badIndex [] s))) ∧
  (∀ (r : Request) (s : State), Serving .tableRead r s →
    (∀ id i, EntryExists s.variant id i r → exec .tableRead s = .next (answer r .ok (s.tables.readBytes s.variant id i) s)) ∧
    ((∀ id i, ¬ EntryExists s.variant id i r) → exec .tableRead s = .next (answer r .badIndex [] s))) ∧
  (∀ (t : Tables) (v : Variant) (n : Nat), n < 12 →
    (t.readBytes v .directory n).map BitVec.toNat =
      [[0, 12, 5, 0, 3], [3, 8, 2, 1, 9], [7, v.channels, 7, 1, 10], [1, 8, 2, 1, 7], [9, 6 * v.axles, 8, 1, 8],
       [5, v.axles, 8, 1, 11], [11, 16, 2, 1, 255], [2, 4, 1, 1, 1], [10, 8 * v.channels, 3, 1, 6], [4, v.axles, 8, 1, 5],
       [8, 8 * v.axles, 4, 1, 4], [6, v.axles, 7, 1, 2]].getD n [])

/-- PART_READ and the two halves of CHANNEL_READ: OK with nine bytes of the state that stands; settle-until is
shown absent from the moment part time reaches it, and else with at least 1 ms to go; a channel beyond the variant's count or another
half is BAD_INDEX. FAULT_READ and FIRST_READ: BAD_INDEX from position 16 on, NO_ENTRY where nothing stands, else OK with nine bytes
(R136, R167, R179, R180, R181, R182, R183). -/
def Obligations.StateAndFaultReads : Prop :=
  ((∀ (r : Request) (s : State), Serving .partRead r s →
    let vref := s.reference.vref.getD 65535
    exec .partRead s = .next (answer r .ok
      [byte (32 * partCode s.control.part + (s.control.cause.map FaultKind.number).getD 0), byte (vref / 256), byte vref,
       byte s.monitor.list.length,
       byte (bit s.reference.standstill + 2 * bit s.monitor.first.isSome + 4 * bit s.monitor.overflow
         + 8 * bit s.control.written + 16 * bit s.control.commit.isSome),
       byte (s.now.toNat / 16777216), byte (s.now.toNat / 65536), byte (s.now.toNat / 256), byte s.now.toNat] s)) ∧
  (∀ (r : Request) (s : State), Serving .channelRead r s →
    let n := (r.args.getD 0 0).toNat
    let half := (r.args.getD 1 0).toNat
    (∀ c : Chan, c.val = n → n < s.variant.channels →
      let x := s.chan.nth c
      let w := s.wheel.nth c
      let speed := w.speed.getD 65535
      let target := s.demand.target.nth c
      let pressure := x.measured.getD 65535
      let active := (s.scheduler.slots.nth c).activeCommand
      (half = 0 → ∃ d1 d0 j1 j0 : Byte,
        (d1 ++ d0 = BitVec.ofInt 16 w.decel) ∧
        (s.reference.slip.nth c ≤ 1000 →
          j1.toNat * 256 + j0.toNat = decisionCode (s.reference.decision.nth c) * 16384 + s.reference.slip.nth c) ∧
        exec .channelRead s = .next (answer r .ok
          [byte (16 * chanCode x.state + 8 * bit x.partnerHold + 4 * bit w.stale + 2 * bit w.lost + bit x.dumpSince.isSome),
           byte (speed / 256), byte speed, d1, d0, j1, j0,
           byte (bit x.latch.wheelLost + 2 * bit x.latch.wheelImplausible + 4 * bit x.latch.pressureLost
             + 8 * bit x.latch.pressureTrack + 16 * bit x.latch.dumpTimeout + 32 * bit x.latch.nodeReported),
           byte (match x.dumpSince with
             | some d => if 4080 ≤ (s.now - d).toNat then 255 else (s.now - d).toNat / 16
             | none => 0)] s)) ∧
      (half = 1 → ∃ (j1 j0 : Byte) (left : Nat),
        (x.settleUntil = none → left = 0) ∧
        (∀ u, x.settleUntil = some u →
          ((s.now - u).toNat < 2 ^ 31 → left = 0) ∧
          (2 ^ 31 ≤ (s.now - u).toNat → 1 ≤ left ∧ left = min 255 (u - s.now).toNat)) ∧
        (target ≤ 1000 → j1.toNat * 256 + j0.toNat = 32768 * bit s.demand.stale + 16384 * bit s.demand.stopHold + target) ∧
        exec .channelRead s = .next (answer r .ok
          [j1, j0, byte (pressure / 256), byte pressure, byte x.offset, byte active.pulse,
           byte (modeCode active.mode + 4 * bit (s.scheduler.slots.nth c).written + 8 * bit x.stale + 16 * bit x.lost
             + (if left = 0 then 0 else 32)),
           byte x.trackCount, byte left] s))) ∧
    (s.variant.channels ≤ n ∨ 2 ≤ half → exec .channelRead s = .next (answer r .badIndex [] s)))) ∧
  ((∀ (r : Request) (s : State), Serving .faultRead r s →
    let n := (r.args.getD 0 0).toNat
    (16 ≤ n → exec .faultRead s = .next (answer r .badIndex [] s)) ∧
    (n < 16 → s.monitor.list.length ≤ n → exec .faultRead s = .next (answer r .noEntry [] s)) ∧
    (n < 16 → ∀ e, s.monitor.list[n]? = some e →
      let age := if 65535 ≤ (e.last - e.first).toNat then 65535 else (e.last - e.first).toNat
      exec .faultRead s = .next (answer r .ok
        [byte (e.kind.number + 32 * bit e.acknowledged + 64 * bit e.present), byte (locusCode e.locus), byte e.count,
         byte (e.last.toNat / 16777216), byte (e.last.toNat / 65536), byte (e.last.toNat / 256), byte e.last.toNat,
         byte (age / 256), byte age] s))) ∧
  (∀ (r : Request) (s : State), Serving .firstRead r s →
    (s.monitor.first = none → exec .firstRead s = .next (answer r .noEntry [] s)) ∧
    (∀ f, s.monitor.first = some f →
      exec .firstRead s = .next (answer r .ok
        ([byte (f.kind.number + 128 * bit f.header.isSome), byte (locusCode f.locus),
          byte (f.stamp.toNat / 16777216), byte (f.stamp.toNat / 65536), byte (f.stamp.toNat / 256), byte f.stamp.toNat]
         ++ (match f.header with
             | some h => headerBytes h
             | none => [0, 0, 0])) s))))

/-- A condition is present as its owner says: ROLE_VALVE while the port's quiet timer runs, the lost conditions, the node-reported
condition and the low supply while their flags stand, an event kind never. FAULT_CLEAR: NO_ENTRY where the list has no entry of that
kind and locus; STALE with the entry's count where the count given differs; HELD, with the entry acknowledged and its condition
marked present, where the owner says it is present; else OK, with the entry removed. The lamp follows a change. That its
notice goes before the answer is the model's choice (log 37) (R162, R167, R169). -/
def Obligations.FaultClear : Prop :=
  (∀ s : State,
    (∀ p, conditionPresent s .roleValve (.port p) = true ↔ ∃ e, s.monitor.quiet.sel p = some e) ∧
    (conditionPresent s .demandLost .none = true ↔ s.demand.lost = true) ∧
    (∀ c, (conditionPresent s .wheelLost (.channel c) = true ↔ (s.wheel.nth c).lost = true) ∧
      (conditionPresent s .pressureLost (.channel c) = true ↔ (s.chan.nth c).lost = true) ∧
      (conditionPresent s .nodeReported (.channel c) = true ↔ s.monitor.node.nth c = true)) ∧
    (∀ a, conditionPresent s .supplyLow (.axle a) = true ↔ (s.demand.supply.nth a).low = true) ∧
    (∀ (k : FaultKind) (l : Locus), k.number ∉ [6, 7, 9, 11, 14, 15] → conditionPresent s k l = false)) ∧
  ∀ (r : Request) (s : State), Serving .faultClear r s → FaultListSound s.monitor.list →
    let kind := (r.args.getD 0 0).toNat
    let locus := (r.args.getD 1 0).toNat
    let count := (r.args.getD 2 0).toNat
    ((∀ e ∈ s.monitor.list, ¬ (e.kind.number = kind ∧ locusCode e.locus = locus)) →
      exec .faultClear s = .next (answer r .noEntry [] s)) ∧
    (∀ xs e ys, s.monitor.list = xs ++ e :: ys → e.kind.number = kind → locusCode e.locus = locus →
      LocusExists s.variant e.locus →
      (e.count ≠ count → exec .faultClear s = .next (answer r .stale [byte e.count] s)) ∧
      (e.count = count → conditionPresent s e.kind e.locus = true →
        exec .faultClear s = .next (answer r .held [] (faultListChanged
          { s with monitor := { s.monitor with
              list := xs ++ { e with acknowledged := true, present := true } :: ys } }))) ∧
      (e.count = count → conditionPresent s e.kind e.locus = false →
        exec .faultClear s = .next (answer r .ok [] (faultListChanged
          { s with monitor := { s.monitor with list := xs ++ ys } }))))

/-- FIRST_CLEAR: the first-fault record becomes absent, the overflow flag clears, the list stands, and the answer is OK with no
data; the next report that makes an entry fills the record again (R168). -/
def Obligations.FirstClear : Prop :=
  ∀ (r : Request) (s : State), Serving .firstClear r s →
    let cleared := { s with monitor := { s.monitor with first := none, overflow := false } }
    exec .firstClear s = .next (answer r .ok [] cleared) ∧
    (answer r .ok [] cleared).monitor = cleared.monitor ∧
    ∀ x : FaultReport, (∀ e ∈ s.monitor.list, ¬ (e.kind = x.kind ∧ e.locus = x.locus)) → s.monitor.list.length < 16 →
      ¬ ((s.tables.policyOf x.kind).cls = .noted ∧ (s.tables.policyOf x.kind).mask = true) →
      (report x (answer r .ok [] cleared)).monitor.first =
        some { kind := x.kind, locus := x.locus, stamp := x.time, header := x.header }

/-- TABLE_WRITE refused, by the first test that fails: VERIFY is STATE, no standstill in SERVICE, DEGRADED and BACKUP is MOVING, no
such table or entry is BAD_INDEX, the DIRECTORY is READ_ONLY, a wrong byte count is UNKNOWN, a reference that does not hold is
ORDER. Nothing else changes. A WHEEL_MAP entry's axle is tested as it was sent (log 15) (R48, R49, R176). -/
def Obligations.TableWriteRefused : Prop :=
  ∀ (r : Request) (s : State), Serving .tableWrite r s →
    let bytes := r.args.drop 2
    (s.control.part = .verify → exec .tableWrite s = .next (answer r .state [] s)) ∧
    (s.control.part.committed = true → s.reference.standstill = false →
      exec .tableWrite s = .next (answer r .moving [] s)) ∧
    (s.control.part = .cold ∨ s.control.part = .loading ∨
        (s.control.part.committed = true ∧ s.reference.standstill = true) →
      ((∀ id i, ¬ EntryExists s.variant id i r) → exec .tableWrite s = .next (answer r .badIndex [] s)) ∧
      (∀ i, EntryExists s.variant .directory i r → exec .tableWrite s = .next (answer r .readOnly [] s)) ∧
      (∀ id i, id ≠ .directory → EntryExists s.variant id i r →
        (bytes.length ≠ entryLength id → exec .tableWrite s = .next (answer r .unknown [] s)) ∧
        (bytes.length = entryLength id → ¬ ReferencesAllow s.variant s.tables id i bytes →
          exec .tableWrite s = .next (answer r .order [] s))))

/-- TABLE_WRITE accepted, for every table but WHEEL_MAP: LOADING is entered first where the part is not in it, the entry is stored,
the written flag is set, and the answer carries the stored bytes, OK where they are the bytes sent and else OK_CLAMPED. ROLES entry
0 also makes the last accepted sequence absent, and an AXLE entry its load sample. The answer is placed after all of it, behind the
notice of an entry into LOADING: the model's reading (log 10) (R13, R50, R51, R53, R104, R134). -/
def Obligations.TableWriteAccepted : Prop :=
  ∀ (r : Request) (id : TableId) (i : Nat) (s : State), Serving .tableWrite r s → EntryExists s.variant id i r →
    id ≠ .directory → id ≠ .wheelMap → (r.args.drop 2).length = entryLength id →
    ReferencesAllow s.variant s.tables id i (r.args.drop 2) →
    (s.control.part = .cold ∨ s.control.part = .loading ∨
      (s.control.part.committed = true ∧ s.reference.standstill = true)) →
    ∃ (e : Entry) (u : State), storedEntry s.variant id i (r.args.drop 2) = some e ∧
      exec .tableWrite s =
        .next (answer r (if entryBytes e = r.args.drop 2 then .ok else .okClamped) (entryBytes e) u) ∧
      (let opened := if s.control.part = .loading then s else enterLoading s
       let stored :=
         { opened with tables := s.tables.store i e, control := { opened.control with written := true } }
       (id ≠ .roles → id ≠ .axle → u = stored) ∧
       (id = .roles →
         u = { stored with
           demand := { opened.demand with lastSeq := if i = 0 then none else s.demand.lastSeq } }) ∧
       (id = .axle →
         u.tables = s.tables.store i e ∧ u.control.written = true ∧ u.control.part = .loading ∧
         u.demand = { opened.demand with load := opened.demand.load.put (Fin.ofNat 3 i) none } ∧
         u.wheel = opened.wheel ∧ u.downstream = opened.downstream ∧ u.monitor = opened.monitor ∧
         ∀ c : Chan, (u.chan.nth c).latch = (opened.chan.nth c).latch ∧ (u.chan.nth c).offset = (opened.chan.nth c).offset ∧
           (u.tables.mapped c = true → u.tables.axleOf c = Fin.ofNat 3 i →
             (u.chan.nth c).partnerHold = partnerWanted u c)))

/-- TABLE_WRITE of a WHEEL_MAP entry, accepted: the channel becomes YIELDED or VACANT by the entry's present bit; its latch set,
measured pressure, settle window, track check, dump stamp and speed record return to their initial values; its offset becomes 0
where the valve node or valve index changes; its slip is 0, its decision INACTIVE, its node report gone; its lost conditions end,
and the fault list's entries of the ended conditions have their flags cleared. The partner holds of the axle before and of the axle
after are made again. The entry's axle is tested as it was sent (log 15), the NODE_REPORTED entry's flag clears too (log 18), an
unmapped channel's partner hold is clear (log 28), and any notice goes before the answer (log 10, log 37) (R50, R51, R53, R81, R85, R120,
R134, R135, R161, R162). -/
def Obligations.WheelMapWritten : Prop :=
  ∀ (r : Request) (c : Chan) (s : State), Serving .tableWrite r s → EntryExists s.variant .wheelMap c.val r →
    (r.args.drop 2).length = 7 → ReferencesAllow s.variant s.tables .wheelMap c.val (r.args.drop 2) →
    (s.control.part = .cold ∨ s.control.part = .loading ∨
      (s.control.part.committed = true ∧ s.reference.standstill = true)) →
    ∃ (e : WheelEntry) (u : State), storedEntry s.variant .wheelMap c.val (r.args.drop 2) = some (.wheelMap e) ∧
      exec .tableWrite s =
        .next (answer r (if entryBytes (.wheelMap e) = r.args.drop 2 then .ok else .okClamped) (entryBytes (.wheelMap e)) u) ∧
      u.tables = { s.tables with wheelMap := s.tables.wheelMap.put c e } ∧ u.control.written = true ∧
      u.control.part = .loading ∧
      (let x := u.chan.nth c
       let old := s.tables.wheelMap.nth c
       x.state = (if e.present = true then .yielded else .vacant) ∧ x.latch.isEmpty = true ∧ x.measured = none ∧
       x.stamp = none ∧ x.stale = true ∧ x.lost = false ∧ x.settleUntil = none ∧ x.trackRef = none ∧ x.trackCount = 0 ∧
       x.dumpSince = none ∧
       x.offset = (if old.valveNode = e.valveNode ∧ old.valveIndex = e.valveIndex then (s.chan.nth c).offset else 0)) ∧
      u.wheel.nth c = { base := none, speed := none, decel := 0, lastEdge := none, lastSample := none, stale := true
                        lost := false, deadline1 := none, deadline2 := none } ∧
      u.reference.slip = s.reference.slip.put c 0 ∧ u.reference.decision = s.reference.decision.put c .inactive ∧
      u.reference.vref = s.reference.vref ∧
      u.monitor =
        { s.monitor with
          node := s.monitor.node.put c false
          list := s.monitor.list.map fun x =>
            if x.locus = .channel c ∧
                (x.kind = .nodeReported ∨ (x.kind = .wheelLost ∧ (s.wheel.nth c).lost = true) ∨
                  (x.kind = .pressureLost ∧ (s.chan.nth c).lost = true)) then { x with present := false }
            else x } ∧
      (∀ o : Chan,
        (o = c ∨ (u.tables.mapped o = true ∧ (u.tables.axleOf o = s.tables.axleOf c ∨ u.tables.axleOf o = e.axle))) →
        (u.chan.nth o).partnerHold = partnerWanted u o) ∧
      u.control.heldOut.nth c = (e.present && (u.chan.nth c).partnerHold) ∧
      (∀ o : Chan, o ≠ c → (u.chan.nth o).latch = (s.chan.nth o).latch ∧ (u.chan.nth o).offset = (s.chan.nth o).offset ∧
        (u.chan.nth o).measured = (s.chan.nth o).measured) ∧
      (∀ f, s.port.d.tx = .sending f → s.control.part = .loading → u.downstream = s.downstream)

/-- What a write stores, table by table: each field in its place, clamped to its range, an enumeration without a meaning replaced by
its default, a POLICY class outside the kind's allowed set by the kind's default. A WHEEL_MAP entry's axle is clamped as it is
stored (log 15). An entry's bytes carry its fields in the same places. What a write stores reads back as the bytes its answer
carried, has the table's length, and is stored unchanged when written again; every other entry of every table reads as before. Only
a wrong byte count is not stored (R38, R41 to R47, R50, R178). -/
def Obligations.StoredEntries : Prop :=
  let two := fun h l : Byte => h.toNat * 256 + l.toNat
  let clip := fun lo hi n : Nat => max lo (min hi n)
  let xOf := fun (hi : Nat) (h l : Byte) => if two h l = 65535 then none else some (min hi (two h l))
  let node := fun b : Byte => BitVec.ofNat 6 (min 63 b.toNat)
  let out := fun n : Nat => [byte (n / 256), byte n]
  let xOut := fun x : Option Nat =>
    match x with
    | some n => out n
    | none => [255, 255]
  let one := fun (n : Nat) (b : Bool) => if b = true then n else 0
  (∀ (v : Variant) (i : Nat) (b0 b1 b2 b3 b4 b5 b6 b7 : Byte),
    (∀ lo hi, [(1000, 8000), (5000, 15000), (500, 5000), (20, 200), (20, 200), (20, 200), (50, 1000), (100, 2000)][i]? = some (lo, hi) →
      storedEntry v .global i [b0, b1] = some (.global (clip lo hi (two b0 b1)))) ∧
    storedEntry v .roles i [b0] = some (.roles (node b0)) ∧
    storedEntry v .forward i [b0, b1] = some (.forward { base := node b0, limit := node b1 }) ∧
    storedEntry v .axle i [b0, b1, b2, b3, b4, b5, b6, b7] =
      some (.axle
        { present := decide (128 ≤ b0.toNat)
          fallback := if b0.toNat / 4 % 4 = 1 then .together else .independent
          pair := if b0.toNat % 4 = 1 then .yawLimit else .none
          pFull := clip 200 900 (two b1 b2), pMax := clip 200 1000 (two b3 b4), staticLoad := clip 0 1500 (two b5 b6)
          loadNode := node b7 }) ∧
    storedEntry v .timing i [b0, b1, b2, b3, b4, b5, b6, b7] =
      some (.timing
        { period := clip 5 40 b0.toNat, minPulse := clip 2 20 b1.toNat, lag := clip 0 300 (two b2 b3)
          deadband := clip 5 50 b4.toNat, reapplyMax := clip 2 40 b5.toNat, maxDump := clip 200 3000 (two b6 b7) }) ∧
    storedEntry v .aux i [b0, b1, b2, b3, b4, b5, b6] =
      some (.aux
        { stopHold := clip 0 1000 (two b0 b1), yawMargin := clip 20 300 (two b2 b3), supplyMargin := clip 0 200 b4.toNat
          supplyWarn := clip 300 1000 (two b5 b6) }) ∧
    (∃ e : WheelEntry, storedEntry v .wheelMap i [b0, b1, b2, b3, b4, b5, b6] = some (.wheelMap e) ∧
      (e.present = true ↔ 128 ≤ b0.toNat) ∧ (e.side = .right ↔ b0.toNat / 64 % 2 = 1) ∧
      e.axle.val = min (v.axles - 1) (b0.toNat / 16 % 4) ∧ (e.width = .bits12 ↔ b0.toNat / 4 % 4 = 0) ∧
      e.wheelNode.toNat = b1.toNat / 4 ∧ e.sensorIndex.toNat = b1.toNat % 4 ∧ e.valveNode.toNat = b2.toNat / 4 ∧
      e.valveIndex.toNat = b2.toNat % 4 ∧ e.tick = (if b3.toNat ∈ [1, 2, 4, 8] then b3.toNat else 4) ∧
      e.teeth = clip 20 200 b4.toNat ∧ e.circumference = clip 1500 4000 (two b5 b6)) ∧
    storedEntry v .loadCurve i [b0, b1, b2, b3] =
      some (.loadCurve { x := xOf 1500 b0 b1, gain := clip 100 1200 (two b2 b3) }) ∧
    storedEntry v .slipBands i [b0, b1, b2, b3, b4, b5, b6, b7] =
      some (.slipBands
        { x := xOf 40000 b0 b1, release := clip 40 400 (two b2 b3), reapply := clip 10 390 (two b4 b5)
          releaseDecel := clip 2000 20000 (two b6 b7) }) ∧
    storedEntry v .valveCurve i [b0, b1, b2] = some (.valveCurve { x := xOf 1500 b0 b1, pulse := b2.toNat }) ∧
    (∀ usual allowed,
      [(0, [0]), (0, [0]), (0, [0]), (0, [0]), (0, [0, 2]), (2, [2]), (2, [2]), (0, [0, 2]), (1, [1]), (0, [0, 1]), (1, [1]),
        (1, [0, 1]), (1, [1]), (1, [0, 1]), (0, [0]), (0, [0])][i]? = some (usual, allowed) →
      ∃ p : PolicyEntry, storedEntry v .policy i [b0, b1] = some (.policy p) ∧
        classCode p.cls = (if b0.toNat ∈ allowed then b0.toNat else usual) ∧
        (p.mask = true ↔ p.cls = .noted ∧ b1 ≠ 0))) ∧
  ((∀ n, entryBytes (.global n) = out n) ∧ (∀ n, entryBytes (.roles n) = [byte n.toNat]) ∧
    (∀ w, entryBytes (.forward w) = [byte w.base.toNat, byte w.limit.toNat]) ∧
    (∀ e, entryBytes (.axle e) =
      byte (one 128 e.present + one 4 (e.fallback == .together) + one 1 (e.pair == .yawLimit)) ::
        (out e.pFull ++ out e.pMax ++ out e.staticLoad ++ [byte e.loadNode.toNat])) ∧
    (∀ e, entryBytes (.timing e) =
      byte e.period :: byte e.minPulse :: (out e.lag ++ byte e.deadband :: byte e.reapplyMax :: out e.maxDump)) ∧
    (∀ e, entryBytes (.aux e) = out e.stopHold ++ out e.yawMargin ++ byte e.supplyMargin :: out e.supplyWarn) ∧
    (∀ e, entryBytes (.wheelMap e) =
      byte (one 128 e.present + one 64 (e.side == .right) + 16 * e.axle.val + one 4 (e.width == .bits16)) ::
        byte (4 * e.wheelNode.toNat + e.sensorIndex.toNat) :: byte (4 * e.valveNode.toNat + e.valveIndex.toNat) ::
        byte e.tick :: byte e.teeth :: out e.circumference) ∧
    (∀ p, entryBytes (.loadCurve p) = xOut p.x ++ out p.gain) ∧
    (∀ b, entryBytes (.slipBands b) = xOut b.x ++ out b.release ++ out b.reapply ++ out b.releaseDecel) ∧
    (∀ p, entryBytes (.valveCurve p) = xOut p.x ++ [byte p.pulse]) ∧
    (∀ p, entryBytes (.policy p) = [byte (classCode p.cls), byte (one 1 p.mask)])) ∧
  ∀ (v : Variant) (id : TableId) (i : Nat) (bytes : List Byte), id ≠ .directory →
    (storedEntry v id i bytes = none ↔ bytes.length ≠ entryLength id) ∧
    (∀ e, storedEntry v id i bytes = some e → i < entryCount v id →
      (entryBytes e).length = entryLength id ∧ storedEntry v id i (entryBytes e) = some e ∧
      ∀ t : Tables, (t.store i e).readBytes v id i = entryBytes e ∧
        ∀ (other : TableId) (j : Nat), j < entryCount v other → (other ≠ id ∨ j ≠ i) →
          (t.store i e).readBytes v other j = t.readBytes v other j)

/-- RESTORE_CHANNEL: BAD_INDEX beyond the variant's count; else every kind whose condition is not present leaves the latch set and
the answer carries the kinds left, CONDITION where any is left and else OK. Where a set becomes empty, the partner holds of the axle
and the held-out report are made again, and the channel enters FOLLOW if R122 allows. The order of these is the model's (log 11),
as is the answer's place after all of them (log 37) (R122, R134, R135, R136). -/
def Obligations.RestoreChannel : Prop :=
  ∀ (r : Request) (s : State), Serving .restoreChannel r s →
    (s.variant.channels ≤ (r.args.getD 0 0).toNat → exec .restoreChannel s = .next (answer r .badIndex [] s)) ∧
    (∀ c : Chan, c.val = (r.args.getD 0 0).toNat → c.val < s.variant.channels →
      ∃ u : State,
        exec .restoreChannel s =
          .next (answer r (if (remaining s c).isEmpty = true then .ok else .condition) [latchByte (remaining s c)] u) ∧
        (remaining s c = (s.chan.nth c).latch → u = s) ∧
        (u.chan.nth c).latch = remaining s c ∧
        (remaining s c ≠ (s.chan.nth c).latch → (remaining s c).isEmpty = true → s.tables.mapped c = true →
          (u.control.heldOut.nth c = (u.chan.nth c).isHeldOut ∧
           (∀ o : Chan, s.tables.mapped o = true → s.tables.axleOf o = s.tables.axleOf c →
             (u.chan.nth o).partnerHold = partnerWanted u o) ∧
           ((s.chan.nth c).state = .yielded → s.control.part.modulating = true → (u.chan.nth c).partnerHold = false →
             (s.wheel.nth c).usable = true → (s.chan.nth c).usable = true → (u.chan.nth c).state = .follow) ∧
           (s.control.part.modulating = false → (u.chan.nth c).state = (s.chan.nth c).state ∨
             (u.chan.nth c).state = .yielded))) ∧
        u.monitor = s.monitor ∧ u.tables = s.tables ∧ u.wheel = s.wheel ∧ u.reference = s.reference ∧
        u.management.queue = s.management.queue)

/-- ZERO: the tests in their order, each with its answer; when all pass, the channel enters ZEROING with YIELD 0 written, an
accumulator of 0 begun now, the zero timer set and the request kept, and no answer is placed (R121, R137, R177). -/
def Obligations.ZeroRequest : Prop :=
  ∀ (r : Request) (s : State), Serving .zero r s →
    (s.variant.channels ≤ (r.args.getD 0 0).toNat → exec .zero s = .next (answer r .badIndex [] s)) ∧
    (∀ c : Chan, c.val = (r.args.getD 0 0).toNat → c.val < s.variant.channels →
      let x := s.chan.nth c
      let part := s.control.part.committed = true
      let place := x.state = .follow ∨ x.state = .hold ∨ x.state = .yielded
      let low := ∀ d, s.demand.demand = some d → d < 20
      (¬ part → exec .zero s = .next (answer r .state [] s)) ∧
      (part → x.state = .zeroing → exec .zero s = .next (answer r .busy [] s)) ∧
      (part → x.state ≠ .zeroing → ¬ place → exec .zero s = .next (answer r .state [] s)) ∧
      (part → place → x.latch.isEmpty = false → exec .zero s = .next (answer r .latched [] s)) ∧
      (part → place → x.latch.isEmpty = true → s.reference.standstill = false →
        exec .zero s = .next (answer r .moving [] s)) ∧
      (part → place → x.latch.isEmpty = true → s.reference.standstill = true → ¬ low →
        exec .zero s = .next (answer r .demand [] s)) ∧
      (part → place → x.latch.isEmpty = true → s.reference.standstill = true → low →
        ∃ t : State, exec .zero s = .next t ∧
          (t.chan.nth c).state = .zeroing ∧ (t.chan.nth c).zeroAcc = some { sum := 0, count := 0, start := s.now } ∧
          (t.chan.nth c).zeroTimer = some (s.now + BitVec.ofNat 32 (s.tables.global.nth 7)) ∧
          (t.chan.nth c).zeroRequest = some { source := r.source, tag := r.tag } ∧
          (t.chan.nth c).offset = x.offset ∧ (t.chan.nth c).trackCount = 0 ∧
          (t.scheduler.slots.nth c).pendingCommand = { mode := .yield, pulse := 0 } ∧
          (t.scheduler.slots.nth c).written = true ∧ (∀ o : Chan, o ≠ c → t.chan.nth o = s.chan.nth o) ∧
          (∀ f, s.port.u.tx = .sending f →
            t.upstream.responses = s.upstream.responses ∧ t.management = nextService s.management) ∧
          t.tables = s.tables ∧ t.monitor = s.monitor ∧ t.wheel = s.wheel ∧ t.reference = s.reference))

/-! ## The units' samples -/

/-- A DEMAND accepted at port U: the demand is the greater of the two clamped values; sequence, stamp, stale flag, deadlines and the
lost condition follow; a disagreement is recorded in SERVICE, DEGRADED and BACKUP; a demand of 20 or more aborts every calibration,
each answered ABORTED, in ascending order of the channels (the model's choice, log 13), and one below 20 aborts none; every target
of a mapped channel is recomputed; and the frame is forwarded. The disagreement is reported after the demand is stored (log 17). All
of this comes before the frame joins its FIFO: the model's choice (log 34) (R23, R98, R99, R100, R102, R113, R139, R140). -/
def Obligations.DemandAccepted : Prop :=
  ∀ (b : Byte) (f : Frame) (a1 a0 b1 b0 pedal : Byte) (s : State), Sorted .u b f s → kindOf f.header.kind = .demand →
    f.payload = [a1, a0, b1, b0, pedal] → s.tables.roles.nth 0 ≠ 0 → f.header.source = s.tables.roles.nth 0 →
    let x := min 1000 (a1.toNat * 256 + a0.toNat)
    let y := min 1000 (b1.toNat * 256 + b0.toNat)
    let disagree := 60 < max x y - min x y ∨ (pedal ≠ 0 ∧ x < 20 ∧ y < 20) ∨ (pedal = 0 ∧ (100 < x ∨ 100 < y))
    ∃ t : State, exec (.frameArrival .u b) s = .next (forwardFrame .u f t) ∧
      t.demand.demand = some (max x y) ∧ t.demand.lastSeq = some f.header.sequence ∧ t.demand.stamp = some s.now ∧
      t.demand.stale = false ∧ t.demand.lost = false ∧
      (s.control.part.committed = true →
        t.demand.deadline1 = some (s.now + BitVec.ofNat 32 (s.tables.global.nth 3)) ∧
        t.demand.deadline2 = some (s.now + BitVec.ofNat 32 (3 * s.tables.global.nth 3))) ∧
      (s.control.part.committed = false →
        t.demand.deadline1 = s.demand.deadline1 ∧ t.demand.deadline2 = s.demand.deadline2) ∧
      (let ended := fun list : List FaultEntry =>
         if s.demand.lost = true then
           list.map fun e => if e.kind = .demandLost ∧ e.locus = .none then { e with present := false } else e
         else list
       (¬ (s.control.part.committed = true ∧ disagree) →
         t.monitor = { s.monitor with list := ended s.monitor.list }) ∧
       (s.control.part.committed = true → disagree →
         let reported := report (reportOf .demandDisagree .none s.now (some f.header)) (s.received .u)
         t.monitor = { reported.monitor with list := ended reported.monitor.list })) ∧
      (20 ≤ max x y →
        (∀ c : Chan, (t.chan.nth c).state ≠ .zeroing) ∧
        (∀ c : Chan, (s.chan.nth c).state = .zeroing →
          (t.chan.nth c).state = .yielded ∧ (t.chan.nth c).zeroAcc = none ∧ (t.chan.nth c).zeroTimer = none ∧
          (t.chan.nth c).zeroRequest = none ∧ (t.chan.nth c).offset = (s.chan.nth c).offset) ∧
        (∀ g, s.port.u.tx = .sending g →
          t.upstream.responses = s.upstream.responses ++ allChans.filterMap fun c =>
            if (s.chan.nth c).state = .zeroing then
              (s.chan.nth c).zeroRequest.map fun q =>
                { dest := q.source, code := 13, tag := q.tag, result := .aborted, data := [] }
            else none)) ∧
      (max x y < 20 →
        (∀ c : Chan, (s.chan.nth c).state = .zeroing → t.chan.nth c = s.chan.nth c) ∧
        (∀ g, s.port.u.tx = .sending g → t.upstream.responses = s.upstream.responses)) ∧
      (t.control.part.modulating = true → ∀ c : Chan, s.tables.mapped c = true → t.demand.target.nth c = targetValue t c) ∧
      t.tables = s.tables ∧ t.wheel = s.wheel ∧ t.reference = s.reference

/-- The other copies. DOOR_NOTICE: the door state follows; an open door at standstill with a stop hold on a present axle starts stop
hold, a closed one ends it, and a change recomputes the targets. LOAD_SAMPLE: the axle's load follows and its targets are
recomputed. NODE_FAULT: code 0 clears the channel's node-reported condition, another sets it and, in SERVICE, DEGRADED and BACKUP,
reports NODE_REPORTED. Each frame is forwarded. All of this comes before the frame joins its FIFO: the model's choice (log 34) (R5,
R23, R24, R25, R104, R114, R115, R161). -/
def Obligations.OtherCopies : Prop :=
  (∀ (b d : Byte) (f : Frame) (s : State), Sorted .u b f s → kindOf f.header.kind = .doorNotice → f.payload = [d] →
    s.tables.roles.nth 1 ≠ 0 → f.header.source = s.tables.roles.nth 1 →
    let holds := ∃ a : Axle, s.tables.axlePresent a = true ∧ (s.tables.aux.nth a).stopHold ≠ 0
    let with' := fun (isOpen hold : Bool) =>
      { s.received .u with demand := { s.demand with doorOpen := isOpen, stopHold := hold } }
    (d ≠ 0 → s.reference.standstill = true → holds → s.demand.stopHold = false →
      exec (.frameArrival .u b) s = .next (forwardFrame .u f (recompute s.tables.mappedChans (with' true true)))) ∧
    (d ≠ 0 → (s.reference.standstill = false ∨ ¬ holds ∨ s.demand.stopHold = true) →
      exec (.frameArrival .u b) s = .next (forwardFrame .u f (with' true s.demand.stopHold))) ∧
    (d = 0 → s.demand.stopHold = true →
      exec (.frameArrival .u b) s = .next (forwardFrame .u f (recompute s.tables.mappedChans (with' false false)))) ∧
    (d = 0 → s.demand.stopHold = false →
      exec (.frameArrival .u b) s = .next (forwardFrame .u f (with' false false)))) ∧
  (∀ (b l1 l0 n : Byte) (a : Axle) (f : Frame) (s : State), Sorted .d b f s → kindOf f.header.kind = .loadSample →
    f.payload = [n, l1, l0] → n.toNat = a.val → LoadMatches s.variant s.tables f.header.source a →
    exec (.frameArrival .d b) s =
      .next (forwardFrame .d f (recompute (s.tables.chansOf a)
        { s.received .d with
          demand := { s.demand with load := s.demand.load.put a (some (min 1500 (l1.toNat * 256 + l0.toNat))) } }))) ∧
  (∀ (b index code : Byte) (c : Chan) (f : Frame) (s : State), Sorted .d b f s → kindOf f.header.kind = .nodeFault →
    f.payload = [index, code] → (∀ o : Chan, NodeMatches s.tables f.header.source index code o ↔ o = c) →
    (code = 0 →
      exec (.frameArrival .d b) s =
        .next (forwardFrame .d f
          { s.received .d with
            monitor := { s.monitor with
              node := s.monitor.node.put c false
              list := s.monitor.list.map fun e =>
                if e.kind = .nodeReported ∧ e.locus = .channel c then { e with present := false } else e } })) ∧
    (let marked := { s.received .d with monitor := { s.monitor with node := s.monitor.node.put c true } }
     (code ≠ 0 → s.control.part.committed = true →
       exec (.frameArrival .d b) s =
         .next (forwardFrame .d f (report (reportOf .nodeReported (.channel c) s.now (some f.header)) marked))) ∧
     (code ≠ 0 → s.control.part.committed = false →
       exec (.frameArrival .d b) s = .next (forwardFrame .d f marked))))

/-- A WHEEL_SAMPLE for one channel: outside SERVICE, DEGRADED and BACKUP it is stamped alone; else a resync where the base is absent
or a gap has reached the span of the capture counter, the speed from the edges, the bound without edges, or WHEEL_IMPLAUSIBLE, each
followed by the stamp, the deadlines, the end of the lost condition and the speed update. All of this comes before the frame joins
its FIFO: the model's choice (log 34) (R67, R69 to R76, R80). -/
def Obligations.WheelSamples : Prop :=
  ∀ (b i n c1 c0 : Byte) (c : Chan) (f : Frame) (s : State), Sorted .d b f s → kindOf f.header.kind = .wheelSample →
    f.payload = [i, n, c1, c0] → (∀ o : Chan, WheelMatches s.tables f.header.source i o ↔ o = c) →
    let e := s.tables.wheelMap.nth c
    let x := s.wheel.nth c
    let turns := if e.width = .bits12 then 4096 else 65536
    let span := turns * e.tick
    let capture := (c1.toNat * 256 + c0.toNat) % turns
    let base : Base := { count := n, capture := capture }
    let stored := fun (u : State) (y : SpeedRecord) =>
      { u with
        wheel := u.wheel.put c { y with lastSample := some s.now, lost := false }
        monitor :=
          if x.lost = true then
            { u.monitor with
              list := u.monitor.list.map fun z =>
                if z.kind = .wheelLost ∧ z.locus = .channel c then { z with present := false } else z }
          else u.monitor }
    let armed := fun y : SpeedRecord =>
      { y with base := some base, deadline1 := some (s.now + BitVec.ofNat 32 (s.tables.global.nth 4))
               deadline2 := some (s.now + BitVec.ofNat 32 (3 * s.tables.global.nth 4)) }
    let resynced :=
      exec (.frameArrival .d b) s =
        .next (forwardFrame .d f (stored (s.received .d) (armed { x with lastEdge := some s.now })))
    let completed := fun (u : State) (y : SpeedRecord) =>
      exec (.frameArrival .d b) s =
        .next (forwardFrame .d f (speedUpdate c s.now (stored u { armed y with stale := false })))
    let fall := fun (new scale time : Nat) =>
      match x.speed with
      | some old =>
        if time = 0 then 0 else max (-30000) (min 30000 (Int.tdiv (((old : Int) - (new : Int)) * (scale : Int)) (time : Int)))
      | none => (0 : Int)
    let gap := fun stamp : Option Time => ∃ u, stamp = some u ∧ span ≤ (s.now - u).toNat * 1000
    (s.control.part.committed = false →
      exec (.frameArrival .d b) s = .next (forwardFrame .d f (stored (s.received .d) x))) ∧
    (s.control.part.committed = true →
      (x.base = none → resynced) ∧
      (∀ old, x.base = some old →
        let edges := (n - old.count).toNat
        let ticks := (capture + turns - old.capture) % turns
        (gap x.lastSample → resynced) ∧
        (¬ gap x.lastSample → edges = 0 → ∀ edge last, x.lastEdge = some edge → x.lastSample = some last →
          let m := (s.now - edge).toNat
          let bound := min 40000 (e.circumference * 1000 / (e.teeth * m))
          let held := match x.speed with
            | some o => min o bound
            | none => bound
          let speed := if held < 100 then 0 else held
          (m = 0 → completed (s.received .d) x) ∧
          (m ≠ 0 → completed (s.received .d)
            { x with speed := some speed, decel := fall speed 1000 (s.now - last).toNat })) ∧
        (¬ gap x.lastSample → edges ≠ 0 → gap x.lastEdge → resynced) ∧
        (¬ gap x.lastSample → edges ≠ 0 → ¬ gap x.lastEdge → ticks = 0 →
          completed (report (reportOf .wheelImplausible (.channel c) s.now (some f.header)) (s.received .d)) x) ∧
        (¬ gap x.lastSample → edges ≠ 0 → ¬ gap x.lastEdge → ticks ≠ 0 →
          let speed := min 40000 (edges * e.circumference * 1000000 / (e.teeth * ticks * e.tick))
          completed (s.received .d)
            { x with speed := some speed, decel := fall speed 1000000 (ticks * e.tick), lastEdge := some s.now })))

/-- A speed update: Vref follows the greatest admitted speed within A_up and D_max, the zero-since stamp, the timer and standstill
follow Vref, the channel's slip and decision are formed against it, a YIELDED channel that may leaves for FOLLOW, and the decision
moves a channel in control. Where Vref rises from 0, every calibration is aborted and answered ABORTED, in ascending order of the
channels (log 13), and a channel so aborted stays YIELDED at it (log 14) (R86 to R94, R122, R124, R139). -/
def Obligations.SpeedUpdates : Prop :=
  ∀ (c : Chan) (t : Time) (s : State),
    let u := speedUpdate c t s
    let r := s.reference
    let q := u.reference
    let w := s.wheel.nth c
    let vMin := s.tables.global.nth 2
    let a := s.tables.axleOf c
    let rolls := r.vref = some 0 ∧ q.vref ≠ some 0
    let calm := rolls → ∀ o : Chan, (s.chan.nth o).state ≠ .zeroing
    ((¬ ∃ o v, Admitted s s.wheel o v) → q.vref = r.vref ∧ q.lastUpdate = r.lastUpdate) ∧
    (∀ o v, Admitted s s.wheel o v → (∀ o' v', Admitted s s.wheel o' v' → v' ≤ v) →
      q.lastUpdate = some t ∧ (r.vref = none → q.vref = some (min 40000 v)) ∧
      (∀ old last, r.vref = some old → r.lastUpdate = some last →
        (old ≤ v → q.vref = some (min 40000 (min v (old + s.tables.global.nth 0 * (t - last).toNat / 1000)))) ∧
        (v < old → q.vref = some (min 40000 (max v (old - s.tables.global.nth 1 * (t - last).toNat / 1000)))))) ∧
    (q.vref = some 0 → r.vref ≠ some 0 →
      q.zeroSince = some t ∧ q.timer = some (t + 2000) ∧ q.standstill = r.standstill) ∧
    (rolls → q.zeroSince = none ∧ q.timer = none ∧ q.standstill = false) ∧
    ((q.vref = some 0 ↔ r.vref = some 0) →
      q.zeroSince = r.zeroSince ∧ q.timer = r.timer ∧ q.standstill = r.standstill) ∧
    (∀ o : Chan, o ≠ c → q.slip.nth o = r.slip.nth o ∧ q.decision.nth o = r.decision.nth o) ∧
    ((q.vref = none ∨ w.speed = none ∨ (∃ v, q.vref = some v ∧ v < vMin)) →
      q.slip.nth c = 0 ∧ q.decision.nth c = .inactive) ∧
    (∀ v sp, q.vref = some v → w.speed = some sp → vMin ≤ v →
      q.slip.nth c = min 1000 ((v - sp) * 1000 / v) ∧
      (calm →
        (s.demand.target.nth c < (s.tables.timing.nth a).deadband → q.decision.nth c = .inactive) ∧
        ((s.tables.timing.nth a).deadband ≤ s.demand.target.nth c →
          ∀ xs band ys from', (s.tables.bands a).filter (fun z => z.x.isSome) = xs ++ band :: ys → band.x = some from' →
            ((from' ≤ v ∧ ∀ y ∈ ys, ∀ z, y.x = some z → v < z) ∨
              (xs = [] ∧ v < from' ∧ ∀ y ∈ ys, ∀ z, y.x = some z → v < z)) →
            (band.release ≤ q.slip.nth c ∨ (band.releaseDecel : Int) ≤ w.decel → q.decision.nth c = .over) ∧
            (q.slip.nth c < band.release → w.decel < (band.releaseDecel : Int) →
              (q.slip.nth c ≤ band.reapply → q.decision.nth c = .under) ∧
              (band.reapply < q.slip.nth c → q.decision.nth c = .within))))) ∧
    (calm →
      (s.control.part.modulating = false → u.chan = s.chan) ∧
      (s.control.part.modulating = true →
        let before :=
          if (s.chan.nth c).state = .yielded ∧ (s.chan.nth c).latch.isEmpty = true ∧ (s.chan.nth c).partnerHold = false ∧
              w.speed ≠ none ∧ w.stale = false ∧ (s.chan.nth c).measured ≠ none ∧ (s.chan.nth c).stale = false then .follow
          else (s.chan.nth c).state
        (u.chan.nth c).state =
          (match before, q.decision.nth c with
           | .follow, .over => .dump
           | .dump, .within => .hold
           | .dump, .under => .reapply
           | .dump, .inactive => .follow
           | .hold, .over => .dump
           | .hold, .under => .reapply
           | .hold, .inactive => .follow
           | .reapply, .over => .dump
           | .reapply, .within => .hold
           | .reapply, .inactive => .follow
           | st, _ => st)) ∧
      (∀ o : Chan, o ≠ c → u.chan.nth o = s.chan.nth o) ∧
      u.control = s.control ∧ u.upstream = s.upstream ∧ u.management = s.management) ∧
    (rolls →
      (∀ o : Chan, (s.chan.nth o).state = .zeroing →
        (u.chan.nth o).state = .yielded ∧ (u.chan.nth o).zeroAcc = none ∧ (u.chan.nth o).zeroTimer = none ∧
        (u.chan.nth o).zeroRequest = none ∧ (u.chan.nth o).offset = (s.chan.nth o).offset) ∧
      (∀ f, s.port.u.tx = .sending f →
        u.upstream.responses = s.upstream.responses ++ allChans.filterMap fun o =>
          if (s.chan.nth o).state = .zeroing then
            (s.chan.nth o).zeroRequest.map fun z =>
              { dest := z.source, code := 13, tag := z.tag, result := .aborted, data := [] }
          else none)) ∧
    u.wheel = s.wheel ∧ u.tables = s.tables ∧ u.monitor = s.monitor ∧ u.scheduler.cycle = s.scheduler.cycle

/-- A PRESSURE_SAMPLE for one channel: outside SERVICE, DEGRADED and BACKUP it is stamped alone. Else the raw pressure joins a
running calibration, the measured pressure is the raw one less the offset within 0 to 1500, the deadlines are armed, the lost
condition ends, the other channel of a YAW_LIMIT axle has its target computed again, a YIELDED or REAPPLY channel goes to FOLLOW
where R122 or R128 allow, with its pending slot unwritten and the other channel told again, and the valve decision is made; nothing
else changes. A supply value is then stored, tested against supply warn, and limits the targets of its axle. The supply follows the
pressure: the model's order (log 12). All of this comes before the frame joins its FIFO: the model's choice (log 34) (R24, R108,
R109, R112, R121, R122, R127, R128, R130, R138). -/
def Obligations.PressureSamples : Prop :=
  ∀ (b i r1 r0 : Byte) (supply : List Byte) (c : Chan) (f : Frame) (s : State), Sorted .d b f s →
    kindOf f.header.kind = .pressureSample → f.payload = i :: r1 :: r0 :: supply →
    (∀ o : Chan, ValveMatches s.tables f.header.source i o ↔ o = c) →
    let x := s.chan.nth c
    let a := s.tables.axleOf c
    let raw := r1.toNat * 256 + r0.toNat
    let ended := fun (k : FaultKind) (l : Locus) (list : List FaultEntry) =>
      list.map fun e => if e.kind = k ∧ e.locus = l then { e with present := false } else e
    let monitor :=
      if x.lost = true then { s.monitor with list := ended .pressureLost (.channel c) s.monitor.list } else s.monitor
    (s.control.part.committed = false →
      exec (.frameArrival .d b) s =
        .next (forwardFrame .d f
          { s.received .d with
            chan := s.chan.put c { x with stamp := some s.now, lost := false }, monitor := monitor })) ∧
    (s.control.part.committed = true →
      ∃ w u : State,
        (supply = [] → exec (.frameArrival .d b) s = .next (forwardFrame .d f u)) ∧
        (∀ s1 s0, supply = [s1, s0] →
          let v := s1.toNat * 256 + s0.toNat
          let warn := (s.tables.aux.nth a).supplyWarn
          let low := (s.demand.supply.nth a).low
          let kept := fun isLow : Bool =>
            { u with demand := { u.demand with
                supply := s.demand.supply.put a { supply := some v, timer := some (s.now + 1000), low := isLow } } }
          let tested :=
            if low = true ∧ warn ≤ v then
              { kept false with monitor := { u.monitor with list := ended .supplyLow (.axle a) u.monitor.list } }
            else if low = false ∧ v < warn then report (reportOf .supplyLow (.axle a) s.now (some f.header)) (kept true)
            else kept low
          exec (.frameArrival .d b) s = .next (forwardFrame .d f (recompute (s.tables.chansOf a) tested))) ∧
        let measured := min 1500 (raw - x.offset)
        let y : Channel :=
          { x with
            zeroAcc := if x.state = .zeroing then x.zeroAcc.map fun z => { z with sum := z.sum + raw, count := z.count + 1 }
              else x.zeroAcc
            measured := some measured, stamp := some s.now, stale := false, lost := false
            deadline1 := some (s.now + BitVec.ofNat 32 (s.tables.global.nth 5))
            deadline2 := some (s.now + BitVec.ofNat 32 (3 * s.tables.global.nth 5))
            state :=
              if x.state = .yielded ∧ s.control.part.modulating = true ∧ x.latch.isEmpty = true ∧ x.partnerHold = false ∧
                (s.wheel.nth c).speed ≠ none ∧ (s.wheel.nth c).stale = false then .follow
              else if x.state = .reapply ∧ s.demand.target.nth c ≤ measured + (s.tables.timing.nth a).deadband then .follow
              else x.state }
        u = valveDecision s.now c w ∧ u.chan = w.chan ∧
        w = { s.received .d with
          chan := s.chan.put c y, monitor := monitor, demand := { s.demand with target := w.demand.target }
          scheduler := { s.scheduler with slots := w.scheduler.slots } } ∧
        w.demand.target.nth c = s.demand.target.nth c ∧
        w.scheduler.slots.nth c =
          (if y.state = x.state then s.scheduler.slots.nth c else { s.scheduler.slots.nth c with written := false }) ∧
        (∀ o : Chan, o ≠ c →
          let told := s.control.part.modulating = true ∧ (s.tables.axle.nth a).pair = .yawLimit ∧ s.tables.otherChannel c = some o
          let first := targetValue { w with chan := s.chan.put c { y with state := x.state } } o
          let last := targetValue w o
          let passed := (first ≠ s.demand.target.nth o ∨ last ≠ first) ∧
            ((s.chan.nth o).state = .follow ∨ (s.chan.nth o).state = .reapply) ∧ (s.chan.nth o).usable = true
          w.demand.target.nth o = (if told then last else s.demand.target.nth o) ∧
          (told → passed →
            w.scheduler.slots.nth o = (valveDecision s.now o { w with scheduler := s.scheduler }).scheduler.slots.nth o) ∧
          (¬ (told ∧ passed) → w.scheduler.slots.nth o = s.scheduler.slots.nth o)))

/-- Where a frame matches several channels: outside SERVICE, DEGRADED and BACKUP each one's record is stamped and its lost condition
ends, and each one's node-reported condition is set; a NODE_FAULT of code 0 clears each one's in every part state. All of this comes
before the frame joins its FIFO: the model's choice (log 34) (R24, R67, R80, R127, R131, R161). -/
def Obligations.SeveralChannels : Prop :=
  ∀ (b i : Byte) (rest : List Byte) (f : Frame) (s : State), Sorted .d b f s → f.payload = i :: rest →
    let node := f.header.source
    let ended := fun (k : FaultKind) (which : Chan → Bool) =>
      s.monitor.list.map fun e =>
        match e.locus with
        | .channel o => if e.kind = k ∧ which o = true then { e with present := false } else e
        | .none | .port _ | .direction _ | .axle _ => e
    let leaves := fun (wheel : Row 6 SpeedRecord) (chan : Row 6 Channel) (monitor : Monitor) =>
      exec (.frameArrival .d b) s =
        .next (forwardFrame .d f { s.received .d with wheel := wheel, chan := chan, monitor := monitor })
    (kindOf f.header.kind = .wheelSample → s.control.part.committed = false →
      ∃ wheel : Row 6 SpeedRecord,
        leaves wheel s.chan
          { s.monitor with
            list := ended .wheelLost fun o => decide (WheelMatches s.tables node i o) && (s.wheel.nth o).lost } ∧
        ∀ o : Chan, wheel.nth o =
          if WheelMatches s.tables node i o then { s.wheel.nth o with lastSample := some s.now, lost := false }
          else s.wheel.nth o) ∧
    (kindOf f.header.kind = .pressureSample → s.control.part.committed = false →
      ∃ chan : Row 6 Channel,
        leaves s.wheel chan
          { s.monitor with
            list := ended .pressureLost fun o => decide (ValveMatches s.tables node i o) && (s.chan.nth o).lost } ∧
        ∀ o : Chan, chan.nth o =
          if ValveMatches s.tables node i o then { s.chan.nth o with stamp := some s.now, lost := false }
          else s.chan.nth o) ∧
    (∀ code, kindOf f.header.kind = .nodeFault → rest = [code] →
      (code = 0 →
        ∃ nodes : Row 6 Bool,
          leaves s.wheel s.chan
            { s.monitor with
              node := nodes, list := ended .nodeReported fun o => decide (NodeMatches s.tables node i code o) } ∧
          ∀ o : Chan, nodes.nth o = if NodeMatches s.tables node i code o then false else s.monitor.node.nth o) ∧
      (code ≠ 0 → s.control.part.committed = false →
        ∃ nodes : Row 6 Bool,
          leaves s.wheel s.chan { s.monitor with node := nodes } ∧
          ∀ o : Chan, nodes.nth o = if NodeMatches s.tables node i code o then true else s.monitor.node.nth o))

/-! ## What every step keeps -/

/-- Every table entry keeps to its ranges and every mapped channel to a present axle of the variant, from every state in which they
do (R41 to R47, R49, R50). -/
def Obligations.TablesStayInRange : Prop :=
  ∀ s t : State, step s = .next t →
    (TablesInRange s.variant s.tables → TablesInRange t.variant t.tables) ∧
    (ReferencesHold s.variant s.tables → ReferencesHold t.variant t.tables)

/-- The fault list keeps at most 16 entries of distinct kind and locus with counts of 1 to 255, a condition-present flag stands only
while the condition's owner says so, and the lamp and its pins keep to the part state and the list (R162 to R165, R169). -/
def Obligations.FaultListAndLampStaySound : Prop :=
  ∀ s t : State, step s = .next t →
    (FaultListSound s.monitor.list → FaultListSound t.monitor.list) ∧ (ConditionsTrue s → ConditionsTrue t) ∧
    (LampSound s → LampSound t)

/-- The queues keep to their sizes, nothing waits for an idle transmitter, no request waits for an idle responder, the channel last
served exists, and with the tables in their ranges the reserved count is the sum of requests in the queue, in service and deferred
and of answers that wait (R28, R30, R33, R35, R172, R174, R175). -/
def Obligations.QueuesStayBounded : Prop :=
  ∀ s t : State, step s = .next t →
    (QueuesBounded s → QueuesBounded t) ∧ (PortsServed s → PortsServed t) ∧ (ResponderServes s → ResponderServes t) ∧
    (TablesInRange s.variant s.tables → ControlSound s → PlacesCounted s → PlacesCounted t)

/-- The part state, the commit in flight, the channels' states, the running timers, the waiting commands and the targets stay in
agreement, and in SERVICE, DEGRADED and BACKUP the tables are such that the commit check passes (R52, R58, R59, R102, R110, R118,
R120, R123, R126, R133, R142). -/
def Obligations.ControlStaysSound : Prop :=
  ∀ s t : State, step s = .next t → ControlSound s → ControlSound t

/-- The held-out set, the partner holds and the choice between SERVICE and DEGRADED stay as R61, R134 and R135 give them; an
unmapped channel's partner hold is clear (log 28) (R61, R134, R135). -/
def Obligations.HeldOutSetStaysSound : Prop :=
  ∀ s t : State, step s = .next t → ControlSound s → HeldOutSound s → HeldOutSound t

/-- No FILL waits for a channel outside FOLLOW and REAPPLY, nor outside SERVICE and DEGRADED in a command slot; and every command
that waits keeps to its axle's pulse limits, 255 or from the min pulse up to one less than the period for FILL and VENT and 0 for
CLOSE and YIELD, as do the scheduler's slots in SERVICE, DEGRADED and BACKUP (R31, R121, R129, R141, R145, R147, R148, R153). -/
def Obligations.FillsStayGuarded : Prop :=
  ∀ s t : State, step s = .next t → ControlSound s →
    (FillsGuarded s → FillsGuarded t) ∧ (PulsesLimited s → PulsesLimited t)

/-- Speeds, decelerations, Vref, slips, measured pressures and offsets stay in their ranges, a base's capture below 2^w and the base
with both its stamps, the reference record's stamps, flag and timer in agreement, and every target within its axle's P_max (R65, R69,
R70, R84, R88, R92, R110, R118, R127, R138). -/
def Obligations.ValuesStayInRange : Prop :=
  ∀ s t : State, step s = .next t →
    (ValuesInRange s → ValuesInRange t) ∧ (ReferenceSound s.reference → ReferenceSound t.reference) ∧
    (ControlSound s → TargetsBounded s → TargetsBounded t)

/-- All that every step keeps holds at State.reset, whose variant and straps are the model's choice (log 1, log 2). -/
def Obligations.ResetIsSound : Prop :=
  TablesInRange State.reset.variant State.reset.tables ∧ ReferencesHold State.reset.variant State.reset.tables ∧
  FaultListSound State.reset.monitor.list ∧ LampSound State.reset ∧ QueuesBounded State.reset ∧ PortsServed State.reset ∧
  PlacesCounted State.reset ∧ ControlSound State.reset ∧ HeldOutSound State.reset ∧ FillsGuarded State.reset ∧
  PulsesLimited State.reset ∧ ResponderServes State.reset ∧ ValuesInRange State.reset ∧
  ReferenceSound State.reset.reference ∧ ConditionsTrue State.reset ∧ TargetsBounded State.reset
end

