-- ==== Sys2Proof/Laws/Containers.lean ====
section
/-! SUPPORT. The laws of the two containers: a row read after one of its values is replaced, a port read after a port is
replaced. -/

namespace Sys2Proof

@[simp] theorem Row.nth_put_self {n : Nat} {α : Type} (r : Row n α) (i : Fin n) (x : α) : (r.put i x).nth i = x := by
  simp [Row.nth, Row.put]

theorem Row.nth_put_ne {n : Nat} {α : Type} (r : Row n α) {i j : Fin n} (x : α) (h : i ≠ j) : (r.put i x).nth j = r.nth j := by
  have h' : i.val ≠ j.val := fun k => h (Fin.ext k)
  simp [Row.nth, Row.put, h']

theorem Row.nth_put {n : Nat} {α : Type} (r : Row n α) (i j : Fin n) (x : α) :
    (r.put i x).nth j = if i = j then x else r.nth j := by
  by_cases h : i = j
  · subst h; simp
  · simp [h, Row.nth_put_ne r x h]

@[simp] theorem Row.nth_fill {n : Nat} {α : Type} (x : α) (i : Fin n) : (Row.fill n x).nth i = x := by
  simp [Row.nth, Row.fill]

@[simp] theorem Row.put_nth {n : Nat} {α : Type} (r : Row n α) (i : Fin n) : r.put i (r.nth i) = r := by
  simp [Row.nth, Row.put]

@[simp] theorem Row.put_put {n : Nat} {α : Type} (r : Row n α) (i : Fin n) (x y : α) : (r.put i x).put i y = r.put i y := by
  apply Vector.ext
  intro j hj
  simp only [Row.put, Vector.getElem_set]
  split <;> simp_all

/-- Two rows that agree at every index are equal. -/
theorem Row.ext_nth {n : Nat} {α : Type} {r q : Row n α} (h : ∀ i : Fin n, r.nth i = q.nth i) : r = q := by
  apply Vector.ext
  intro i hi
  exact h ⟨i, hi⟩

@[simp] theorem PerPort.sel_put_self {α : Type} (x : PerPort α) (p : Port) (v : α) : (x.put p v).sel p = v := by
  cases p <;> rfl

@[simp] theorem PerPort.sel_put_other {α : Type} (x : PerPort α) (p : Port) (v : α) : (x.put p v).sel p.other = x.sel p.other := by
  cases p <;> rfl

@[simp] theorem PerPort.put_put {α : Type} (x : PerPort α) (p : Port) (v w : α) : (x.put p v).put p w = x.put p w := by
  cases p <;> rfl

theorem PerPort.sel_put {α : Type} (x : PerPort α) (p q : Port) (v : α) : (x.put p v).sel q = if p = q then v else x.sel q := by
  cases p <;> cases q <;> rfl

@[simp] theorem PerPort.sel_u {α : Type} (x : PerPort α) : x.sel .u = x.u := rfl
@[simp] theorem PerPort.sel_d {α : Type} (x : PerPort α) : x.sel .d = x.d := rfl
@[simp] theorem PerPort.put_u_u {α : Type} (x : PerPort α) (v : α) : (x.put .u v).u = v := rfl
@[simp] theorem PerPort.put_u_d {α : Type} (x : PerPort α) (v : α) : (x.put .u v).d = x.d := rfl
@[simp] theorem PerPort.put_d_u {α : Type} (x : PerPort α) (v : α) : (x.put .d v).u = x.u := rfl
@[simp] theorem PerPort.put_d_d {α : Type} (x : PerPort α) (v : α) : (x.put .d v).d = v := rfl

/-- Every channel stands in the list of all channels. -/
@[simp] theorem mem_allChans (c : Chan) : c ∈ allChans := by
  revert c; decide

/-- Every axle stands in the list of all axles. -/
@[simp] theorem mem_allAxles (a : Axle) : a ∈ allAxles := by
  revert a; decide

end Sys2Proof
end

