-- ==== Sys2Proof/Laws/State.lean ====
section
/-! SUPPORT. The updates of one record: what each writes, and one equation for each field it leaves as it was. -/

namespace Sys2Proof.Machine

open Sys2Proof

/-! ## What each update writes -/

@[simp] theorem modifyChan_chan (s : State) (c : Chan) (f : Channel → Channel) :
    (s.modifyChan c f).chan = s.chan.put c (f (s.chan.nth c)) := rfl

@[simp] theorem modifyWheel_wheel (s : State) (c : Chan) (f : SpeedRecord → SpeedRecord) :
    (s.modifyWheel c f).wheel = s.wheel.put c (f (s.wheel.nth c)) := rfl

@[simp] theorem modifySlots_slots (s : State) (c : Chan) (f : SlotPair → SlotPair) :
    (s.modifySlots c f).scheduler.slots = s.scheduler.slots.put c (f (s.scheduler.slots.nth c)) := rfl

@[simp] theorem modifySupply_supply (s : State) (a : Axle) (f : SupplyRecord → SupplyRecord) :
    (s.modifySupply a f).demand.supply = s.demand.supply.put a (f (s.demand.supply.nth a)) := rfl

@[simp] theorem modifyPort_port (s : State) (p : Port) (f : PortState → PortState) :
    (s.modifyPort p f).port = s.port.put p (f (s.port.sel p)) := rfl

theorem setReceiver_eq (p : Port) (r : Receiver) (s : State) :
    setReceiver p r s = { s with port := s.port.put p { s.port.sel p with rx := r } } := rfl

@[simp] theorem setReceiver_rx (p : Port) (r : Receiver) (s : State) : ((setReceiver p r s).port.sel p).rx = r := by
  simp [setReceiver]

@[simp] theorem setTarget_target (c : Chan) (v : Nat) (s : State) :
    (setTarget c v s).demand.target = s.demand.target.put c v := rfl

@[simp] theorem placeCommand_slots (c : Chan) (x : Command) (s : State) :
    (placeCommand c x s).downstream.slots = s.downstream.slots.put c (some (s.tables.addressed c x)) := rfl

@[simp] theorem writePending_slots (c : Chan) (x : Command) (s : State) :
    (writePending c x s).scheduler.slots = s.scheduler.slots.put c ((s.scheduler.slots.nth c).write x) := rfl

@[simp] theorem withdrawPending_slots (c : Chan) (s : State) :
    (withdrawPending c s).scheduler.slots = s.scheduler.slots.put c (s.scheduler.slots.nth c).withdraw := rfl

@[simp] theorem SlotPair.write_written (p : SlotPair) (x : Command) : (p.write x).written = true := by
  cases p with | mk a b act w => cases act <;> rfl

@[simp] theorem SlotPair.write_pending (p : SlotPair) (x : Command) : (p.write x).pendingCommand = x := by
  cases p with | mk a b act w => cases act <;> rfl

@[simp] theorem SlotPair.write_active (p : SlotPair) (x : Command) : (p.write x).activeCommand = p.activeCommand := by
  cases p with | mk a b act w => cases act <;> rfl

@[simp] theorem SlotPair.withdraw_written (p : SlotPair) : p.withdraw.written = false := rfl

@[simp] theorem SlotPair.withdraw_active (p : SlotPair) : p.withdraw.activeCommand = p.activeCommand := rfl

/-! ## What each update leaves as it was -/

@[simp] theorem modifyChan_keeps (s : State) (c : Chan) (f : Channel → Channel) :
    (s.modifyChan c f).variant = s.variant ∧
      (s.modifyChan c f).address = s.address ∧
      (s.modifyChan c f).now = s.now ∧
      (s.modifyChan c f).tables = s.tables ∧
      (s.modifyChan c f).pending = s.pending ∧
      (s.modifyChan c f).wheel = s.wheel ∧
      (s.modifyChan c f).reference = s.reference ∧
      (s.modifyChan c f).demand = s.demand ∧
      (s.modifyChan c f).scheduler = s.scheduler ∧
      (s.modifyChan c f).monitor = s.monitor ∧
      (s.modifyChan c f).control = s.control ∧
      (s.modifyChan c f).reporter = s.reporter ∧
      (s.modifyChan c f).downstream = s.downstream ∧
      (s.modifyChan c f).upstream = s.upstream ∧
      (s.modifyChan c f).fifos = s.fifos ∧
      (s.modifyChan c f).management = s.management ∧
      (s.modifyChan c f).port = s.port := by
  simp [State.modifyChan]

@[simp] theorem modifyWheel_keeps (s : State) (c : Chan) (f : SpeedRecord → SpeedRecord) :
    (s.modifyWheel c f).variant = s.variant ∧
      (s.modifyWheel c f).address = s.address ∧
      (s.modifyWheel c f).now = s.now ∧
      (s.modifyWheel c f).tables = s.tables ∧
      (s.modifyWheel c f).pending = s.pending ∧
      (s.modifyWheel c f).reference = s.reference ∧
      (s.modifyWheel c f).demand = s.demand ∧
      (s.modifyWheel c f).chan = s.chan ∧
      (s.modifyWheel c f).scheduler = s.scheduler ∧
      (s.modifyWheel c f).monitor = s.monitor ∧
      (s.modifyWheel c f).control = s.control ∧
      (s.modifyWheel c f).reporter = s.reporter ∧
      (s.modifyWheel c f).downstream = s.downstream ∧
      (s.modifyWheel c f).upstream = s.upstream ∧
      (s.modifyWheel c f).fifos = s.fifos ∧
      (s.modifyWheel c f).management = s.management ∧
      (s.modifyWheel c f).port = s.port := by
  simp [State.modifyWheel]

@[simp] theorem modifySlots_keeps (s : State) (c : Chan) (f : SlotPair → SlotPair) :
    (s.modifySlots c f).variant = s.variant ∧
      (s.modifySlots c f).address = s.address ∧
      (s.modifySlots c f).now = s.now ∧
      (s.modifySlots c f).tables = s.tables ∧
      (s.modifySlots c f).pending = s.pending ∧
      (s.modifySlots c f).wheel = s.wheel ∧
      (s.modifySlots c f).reference = s.reference ∧
      (s.modifySlots c f).demand = s.demand ∧
      (s.modifySlots c f).chan = s.chan ∧
      (s.modifySlots c f).monitor = s.monitor ∧
      (s.modifySlots c f).control = s.control ∧
      (s.modifySlots c f).reporter = s.reporter ∧
      (s.modifySlots c f).downstream = s.downstream ∧
      (s.modifySlots c f).upstream = s.upstream ∧
      (s.modifySlots c f).fifos = s.fifos ∧
      (s.modifySlots c f).management = s.management ∧
      (s.modifySlots c f).port = s.port ∧
      (s.modifySlots c f).scheduler.cycle = s.scheduler.cycle := by
  simp [State.modifySlots]

@[simp] theorem modifySupply_keeps (s : State) (a : Axle) (f : SupplyRecord → SupplyRecord) :
    (s.modifySupply a f).variant = s.variant ∧
      (s.modifySupply a f).address = s.address ∧
      (s.modifySupply a f).now = s.now ∧
      (s.modifySupply a f).tables = s.tables ∧
      (s.modifySupply a f).pending = s.pending ∧
      (s.modifySupply a f).wheel = s.wheel ∧
      (s.modifySupply a f).reference = s.reference ∧
      (s.modifySupply a f).chan = s.chan ∧
      (s.modifySupply a f).scheduler = s.scheduler ∧
      (s.modifySupply a f).monitor = s.monitor ∧
      (s.modifySupply a f).control = s.control ∧
      (s.modifySupply a f).reporter = s.reporter ∧
      (s.modifySupply a f).downstream = s.downstream ∧
      (s.modifySupply a f).upstream = s.upstream ∧
      (s.modifySupply a f).fifos = s.fifos ∧
      (s.modifySupply a f).management = s.management ∧
      (s.modifySupply a f).port = s.port ∧
      (s.modifySupply a f).demand.demand = s.demand.demand ∧
      (s.modifySupply a f).demand.lastSeq = s.demand.lastSeq ∧
      (s.modifySupply a f).demand.stamp = s.demand.stamp ∧
      (s.modifySupply a f).demand.stale = s.demand.stale ∧
      (s.modifySupply a f).demand.lost = s.demand.lost ∧
      (s.modifySupply a f).demand.deadline1 = s.demand.deadline1 ∧
      (s.modifySupply a f).demand.deadline2 = s.demand.deadline2 ∧
      (s.modifySupply a f).demand.doorOpen = s.demand.doorOpen ∧
      (s.modifySupply a f).demand.stopHold = s.demand.stopHold ∧
      (s.modifySupply a f).demand.load = s.demand.load ∧
      (s.modifySupply a f).demand.target = s.demand.target := by
  simp [State.modifySupply]

@[simp] theorem modifyPort_keeps (s : State) (p : Port) (f : PortState → PortState) :
    (s.modifyPort p f).variant = s.variant ∧
      (s.modifyPort p f).address = s.address ∧
      (s.modifyPort p f).now = s.now ∧
      (s.modifyPort p f).tables = s.tables ∧
      (s.modifyPort p f).pending = s.pending ∧
      (s.modifyPort p f).wheel = s.wheel ∧
      (s.modifyPort p f).reference = s.reference ∧
      (s.modifyPort p f).demand = s.demand ∧
      (s.modifyPort p f).chan = s.chan ∧
      (s.modifyPort p f).scheduler = s.scheduler ∧
      (s.modifyPort p f).monitor = s.monitor ∧
      (s.modifyPort p f).control = s.control ∧
      (s.modifyPort p f).reporter = s.reporter ∧
      (s.modifyPort p f).downstream = s.downstream ∧
      (s.modifyPort p f).upstream = s.upstream ∧
      (s.modifyPort p f).fifos = s.fifos ∧
      (s.modifyPort p f).management = s.management := by
  simp [State.modifyPort]

@[simp] theorem modifyPort_u_keeps (s : State) (f : PortState → PortState) :
    (s.modifyPort .u f).variant = s.variant ∧
      (s.modifyPort .u f).address = s.address ∧
      (s.modifyPort .u f).now = s.now ∧
      (s.modifyPort .u f).tables = s.tables ∧
      (s.modifyPort .u f).pending = s.pending ∧
      (s.modifyPort .u f).wheel = s.wheel ∧
      (s.modifyPort .u f).reference = s.reference ∧
      (s.modifyPort .u f).demand = s.demand ∧
      (s.modifyPort .u f).chan = s.chan ∧
      (s.modifyPort .u f).scheduler = s.scheduler ∧
      (s.modifyPort .u f).monitor = s.monitor ∧
      (s.modifyPort .u f).control = s.control ∧
      (s.modifyPort .u f).reporter = s.reporter ∧
      (s.modifyPort .u f).downstream = s.downstream ∧
      (s.modifyPort .u f).upstream = s.upstream ∧
      (s.modifyPort .u f).fifos = s.fifos ∧
      (s.modifyPort .u f).management = s.management ∧
      (s.modifyPort .u f).port.d = s.port.d := by
  simp [State.modifyPort]

@[simp] theorem modifyPort_d_keeps (s : State) (f : PortState → PortState) :
    (s.modifyPort .d f).variant = s.variant ∧
      (s.modifyPort .d f).address = s.address ∧
      (s.modifyPort .d f).now = s.now ∧
      (s.modifyPort .d f).tables = s.tables ∧
      (s.modifyPort .d f).pending = s.pending ∧
      (s.modifyPort .d f).wheel = s.wheel ∧
      (s.modifyPort .d f).reference = s.reference ∧
      (s.modifyPort .d f).demand = s.demand ∧
      (s.modifyPort .d f).chan = s.chan ∧
      (s.modifyPort .d f).scheduler = s.scheduler ∧
      (s.modifyPort .d f).monitor = s.monitor ∧
      (s.modifyPort .d f).control = s.control ∧
      (s.modifyPort .d f).reporter = s.reporter ∧
      (s.modifyPort .d f).downstream = s.downstream ∧
      (s.modifyPort .d f).upstream = s.upstream ∧
      (s.modifyPort .d f).fifos = s.fifos ∧
      (s.modifyPort .d f).management = s.management ∧
      (s.modifyPort .d f).port.u = s.port.u := by
  simp [State.modifyPort]

@[simp] theorem beginFrame_keeps (p : Port) (x : Frame) (s : State) :
    (beginFrame p x s).variant = s.variant ∧
      (beginFrame p x s).address = s.address ∧
      (beginFrame p x s).now = s.now ∧
      (beginFrame p x s).tables = s.tables ∧
      (beginFrame p x s).pending = s.pending ∧
      (beginFrame p x s).wheel = s.wheel ∧
      (beginFrame p x s).reference = s.reference ∧
      (beginFrame p x s).demand = s.demand ∧
      (beginFrame p x s).chan = s.chan ∧
      (beginFrame p x s).scheduler = s.scheduler ∧
      (beginFrame p x s).monitor = s.monitor ∧
      (beginFrame p x s).control = s.control ∧
      (beginFrame p x s).reporter = s.reporter ∧
      (beginFrame p x s).downstream = s.downstream ∧
      (beginFrame p x s).upstream = s.upstream ∧
      (beginFrame p x s).fifos = s.fifos ∧
      (beginFrame p x s).management = s.management ∧
      (beginFrame p x s).port.u.rx = s.port.u.rx ∧
      (beginFrame p x s).port.u.origin = s.port.u.origin ∧
      (beginFrame p x s).port.d.rx = s.port.d.rx ∧
      (beginFrame p x s).port.d.origin = s.port.d.origin := by
  cases p <;> simp [State.modifyPort, PerPort.put, beginFrame]

@[simp] theorem beginFrame_u_keeps (x : Frame) (s : State) :
    (beginFrame .u x s).variant = s.variant ∧
      (beginFrame .u x s).address = s.address ∧
      (beginFrame .u x s).now = s.now ∧
      (beginFrame .u x s).tables = s.tables ∧
      (beginFrame .u x s).pending = s.pending ∧
      (beginFrame .u x s).wheel = s.wheel ∧
      (beginFrame .u x s).reference = s.reference ∧
      (beginFrame .u x s).demand = s.demand ∧
      (beginFrame .u x s).chan = s.chan ∧
      (beginFrame .u x s).scheduler = s.scheduler ∧
      (beginFrame .u x s).monitor = s.monitor ∧
      (beginFrame .u x s).control = s.control ∧
      (beginFrame .u x s).reporter = s.reporter ∧
      (beginFrame .u x s).downstream = s.downstream ∧
      (beginFrame .u x s).upstream = s.upstream ∧
      (beginFrame .u x s).fifos = s.fifos ∧
      (beginFrame .u x s).management = s.management ∧
      (beginFrame .u x s).port.d = s.port.d ∧
      (beginFrame .u x s).port.u.rx = s.port.u.rx ∧
      (beginFrame .u x s).port.u.origin = s.port.u.origin := by
  simp [State.modifyPort, PerPort.put, beginFrame]

@[simp] theorem beginFrame_d_keeps (x : Frame) (s : State) :
    (beginFrame .d x s).variant = s.variant ∧
      (beginFrame .d x s).address = s.address ∧
      (beginFrame .d x s).now = s.now ∧
      (beginFrame .d x s).tables = s.tables ∧
      (beginFrame .d x s).pending = s.pending ∧
      (beginFrame .d x s).wheel = s.wheel ∧
      (beginFrame .d x s).reference = s.reference ∧
      (beginFrame .d x s).demand = s.demand ∧
      (beginFrame .d x s).chan = s.chan ∧
      (beginFrame .d x s).scheduler = s.scheduler ∧
      (beginFrame .d x s).monitor = s.monitor ∧
      (beginFrame .d x s).control = s.control ∧
      (beginFrame .d x s).reporter = s.reporter ∧
      (beginFrame .d x s).downstream = s.downstream ∧
      (beginFrame .d x s).upstream = s.upstream ∧
      (beginFrame .d x s).fifos = s.fifos ∧
      (beginFrame .d x s).management = s.management ∧
      (beginFrame .d x s).port.u = s.port.u ∧
      (beginFrame .d x s).port.d.rx = s.port.d.rx ∧
      (beginFrame .d x s).port.d.origin = s.port.d.origin := by
  simp [State.modifyPort, PerPort.put, beginFrame]

@[simp] theorem beginOwn_keeps (p : Port) (n : Node) (k : BitVec 4) (l : List Byte) (s : State) :
    (beginOwn p n k l s).variant = s.variant ∧
      (beginOwn p n k l s).address = s.address ∧
      (beginOwn p n k l s).now = s.now ∧
      (beginOwn p n k l s).tables = s.tables ∧
      (beginOwn p n k l s).pending = s.pending ∧
      (beginOwn p n k l s).wheel = s.wheel ∧
      (beginOwn p n k l s).reference = s.reference ∧
      (beginOwn p n k l s).demand = s.demand ∧
      (beginOwn p n k l s).chan = s.chan ∧
      (beginOwn p n k l s).scheduler = s.scheduler ∧
      (beginOwn p n k l s).monitor = s.monitor ∧
      (beginOwn p n k l s).control = s.control ∧
      (beginOwn p n k l s).reporter = s.reporter ∧
      (beginOwn p n k l s).downstream = s.downstream ∧
      (beginOwn p n k l s).upstream = s.upstream ∧
      (beginOwn p n k l s).fifos = s.fifos ∧
      (beginOwn p n k l s).management = s.management ∧
      (beginOwn p n k l s).port.u.rx = s.port.u.rx ∧
      (beginOwn p n k l s).port.d.rx = s.port.d.rx := by
  cases p <;> simp [State.modifyPort, PerPort.put, beginOwn]

@[simp] theorem beginOwn_u_keeps (n : Node) (k : BitVec 4) (l : List Byte) (s : State) :
    (beginOwn .u n k l s).variant = s.variant ∧
      (beginOwn .u n k l s).address = s.address ∧
      (beginOwn .u n k l s).now = s.now ∧
      (beginOwn .u n k l s).tables = s.tables ∧
      (beginOwn .u n k l s).pending = s.pending ∧
      (beginOwn .u n k l s).wheel = s.wheel ∧
      (beginOwn .u n k l s).reference = s.reference ∧
      (beginOwn .u n k l s).demand = s.demand ∧
      (beginOwn .u n k l s).chan = s.chan ∧
      (beginOwn .u n k l s).scheduler = s.scheduler ∧
      (beginOwn .u n k l s).monitor = s.monitor ∧
      (beginOwn .u n k l s).control = s.control ∧
      (beginOwn .u n k l s).reporter = s.reporter ∧
      (beginOwn .u n k l s).downstream = s.downstream ∧
      (beginOwn .u n k l s).upstream = s.upstream ∧
      (beginOwn .u n k l s).fifos = s.fifos ∧
      (beginOwn .u n k l s).management = s.management ∧
      (beginOwn .u n k l s).port.d = s.port.d ∧
      (beginOwn .u n k l s).port.u.rx = s.port.u.rx := by
  simp [State.modifyPort, PerPort.put, beginOwn]

@[simp] theorem beginOwn_d_keeps (n : Node) (k : BitVec 4) (l : List Byte) (s : State) :
    (beginOwn .d n k l s).variant = s.variant ∧
      (beginOwn .d n k l s).address = s.address ∧
      (beginOwn .d n k l s).now = s.now ∧
      (beginOwn .d n k l s).tables = s.tables ∧
      (beginOwn .d n k l s).pending = s.pending ∧
      (beginOwn .d n k l s).wheel = s.wheel ∧
      (beginOwn .d n k l s).reference = s.reference ∧
      (beginOwn .d n k l s).demand = s.demand ∧
      (beginOwn .d n k l s).chan = s.chan ∧
      (beginOwn .d n k l s).scheduler = s.scheduler ∧
      (beginOwn .d n k l s).monitor = s.monitor ∧
      (beginOwn .d n k l s).control = s.control ∧
      (beginOwn .d n k l s).reporter = s.reporter ∧
      (beginOwn .d n k l s).downstream = s.downstream ∧
      (beginOwn .d n k l s).upstream = s.upstream ∧
      (beginOwn .d n k l s).fifos = s.fifos ∧
      (beginOwn .d n k l s).management = s.management ∧
      (beginOwn .d n k l s).port.u = s.port.u ∧
      (beginOwn .d n k l s).port.d.rx = s.port.d.rx := by
  simp [State.modifyPort, PerPort.put, beginOwn]

end Sys2Proof.Machine
end

