-- ==== Sys2Proof/Laws/Operations.lean ====
section
/-! SUPPORT. The shared operations: one lemma for each that lists every field it leaves as it was, from the arbiters up to the
units' events, and for each operation made for a list of channels. -/

namespace Sys2Proof.Machine

open Sys2Proof

/-- What an operation keeps, an operation made for each of a list of channels keeps. -/
theorem forChans_keeps {α : Type} (g : State → α) (cs : List Chan) (f : Chan → State → State) (s : State)
    (h : ∀ c t, g (f c t) = g t) : g (forChans cs f s) = g s := by
  unfold forChans
  induction cs generalizing s with
  | nil => rfl
  | cons c cs ih => rw [List.foldl_cons, ih, h]

theorem forChans_nil (f : Chan → State → State) (s : State) : forChans [] f s = s := rfl

theorem forChans_cons (c : Chan) (cs : List Chan) (f : Chan → State → State) (s : State) :
    forChans (c :: cs) f s = forChans cs f (f c s) := rfl

/-- A property that an operation keeps for each channel, it keeps for a list of channels. -/
theorem forChans_preserves (P : State → Prop) (cs : List Chan) (f : Chan → State → State) (s : State)
    (h : ∀ c ∈ cs, ∀ t, P t → P (f c t)) (hs : P s) : P (forChans cs f s) := by
  induction cs generalizing s with
  | nil => exact hs
  | cons c cs ih =>
    exact ih (f c s) (fun c' hc' => h c' (List.mem_cons_of_mem c hc')) (h c List.mem_cons_self s hs)

@[simp] theorem chooseDown_keeps (s : State) :
    (chooseDown s).variant = s.variant ∧
      (chooseDown s).address = s.address ∧
      (chooseDown s).now = s.now ∧
      (chooseDown s).tables = s.tables ∧
      (chooseDown s).pending = s.pending ∧
      (chooseDown s).wheel = s.wheel ∧
      (chooseDown s).reference = s.reference ∧
      (chooseDown s).demand = s.demand ∧
      (chooseDown s).chan = s.chan ∧
      (chooseDown s).scheduler = s.scheduler ∧
      (chooseDown s).monitor = s.monitor ∧
      (chooseDown s).control = s.control ∧
      (chooseDown s).reporter = s.reporter ∧
      (chooseDown s).upstream = s.upstream ∧
      (chooseDown s).management = s.management ∧
      (chooseDown s).fifos.up = s.fifos.up ∧
      (chooseDown s).port.u = s.port.u ∧
      (chooseDown s).port.d.rx = s.port.d.rx := by
  unfold chooseDown; (repeat' split) <;> simp

@[simp] theorem chooseUp_keeps (s : State) :
    (chooseUp s).variant = s.variant ∧
      (chooseUp s).address = s.address ∧
      (chooseUp s).now = s.now ∧
      (chooseUp s).tables = s.tables ∧
      (chooseUp s).pending = s.pending ∧
      (chooseUp s).wheel = s.wheel ∧
      (chooseUp s).reference = s.reference ∧
      (chooseUp s).demand = s.demand ∧
      (chooseUp s).chan = s.chan ∧
      (chooseUp s).scheduler = s.scheduler ∧
      (chooseUp s).monitor = s.monitor ∧
      (chooseUp s).control = s.control ∧
      (chooseUp s).reporter = s.reporter ∧
      (chooseUp s).downstream = s.downstream ∧
      (chooseUp s).fifos.down = s.fifos.down ∧
      (chooseUp s).management.queue = s.management.queue ∧
      (chooseUp s).management.responder = s.management.responder ∧
      (chooseUp s).port.d = s.port.d ∧
      (chooseUp s).port.u.rx = s.port.u.rx := by
  unfold chooseUp; (repeat' split) <;> simp

@[simp] theorem placeResponse_keeps (r : Response) (s : State) :
    (placeResponse r s).variant = s.variant ∧
      (placeResponse r s).address = s.address ∧
      (placeResponse r s).now = s.now ∧
      (placeResponse r s).tables = s.tables ∧
      (placeResponse r s).pending = s.pending ∧
      (placeResponse r s).wheel = s.wheel ∧
      (placeResponse r s).reference = s.reference ∧
      (placeResponse r s).demand = s.demand ∧
      (placeResponse r s).chan = s.chan ∧
      (placeResponse r s).scheduler = s.scheduler ∧
      (placeResponse r s).monitor = s.monitor ∧
      (placeResponse r s).control = s.control ∧
      (placeResponse r s).reporter = s.reporter ∧
      (placeResponse r s).downstream = s.downstream ∧
      (placeResponse r s).fifos.down = s.fifos.down ∧
      (placeResponse r s).management.queue = s.management.queue ∧
      (placeResponse r s).management.responder = s.management.responder ∧
      (placeResponse r s).port.d = s.port.d ∧
      (placeResponse r s).port.u.rx = s.port.u.rx := by
  unfold placeResponse; simp

@[simp] theorem placeNotice_keeps (s : State) :
    (placeNotice s).variant = s.variant ∧
      (placeNotice s).address = s.address ∧
      (placeNotice s).now = s.now ∧
      (placeNotice s).tables = s.tables ∧
      (placeNotice s).pending = s.pending ∧
      (placeNotice s).wheel = s.wheel ∧
      (placeNotice s).reference = s.reference ∧
      (placeNotice s).demand = s.demand ∧
      (placeNotice s).chan = s.chan ∧
      (placeNotice s).scheduler = s.scheduler ∧
      (placeNotice s).monitor = s.monitor ∧
      (placeNotice s).control = s.control ∧
      (placeNotice s).reporter = s.reporter ∧
      (placeNotice s).downstream = s.downstream ∧
      (placeNotice s).fifos.down = s.fifos.down ∧
      (placeNotice s).management.queue = s.management.queue ∧
      (placeNotice s).management.responder = s.management.responder ∧
      (placeNotice s).port.d = s.port.d ∧
      (placeNotice s).port.u.rx = s.port.u.rx := by
  unfold placeNotice; simp

@[simp] theorem partStateChanged_keeps (s : State) :
    (partStateChanged s).variant = s.variant ∧
      (partStateChanged s).address = s.address ∧
      (partStateChanged s).now = s.now ∧
      (partStateChanged s).tables = s.tables ∧
      (partStateChanged s).pending = s.pending ∧
      (partStateChanged s).wheel = s.wheel ∧
      (partStateChanged s).reference = s.reference ∧
      (partStateChanged s).demand = s.demand ∧
      (partStateChanged s).chan = s.chan ∧
      (partStateChanged s).scheduler = s.scheduler ∧
      (partStateChanged s).monitor = s.monitor ∧
      (partStateChanged s).control = s.control ∧
      (partStateChanged s).downstream = s.downstream ∧
      (partStateChanged s).fifos.down = s.fifos.down ∧
      (partStateChanged s).management.queue = s.management.queue ∧
      (partStateChanged s).management.responder = s.management.responder ∧
      (partStateChanged s).port.d = s.port.d ∧
      (partStateChanged s).reporter.timer = s.reporter.timer ∧
      (partStateChanged s).port.u.rx = s.port.u.rx := by
  unfold partStateChanged; simp [Reporter.show]

@[simp] theorem faultListChanged_keeps (s : State) :
    (faultListChanged s).variant = s.variant ∧
      (faultListChanged s).address = s.address ∧
      (faultListChanged s).now = s.now ∧
      (faultListChanged s).tables = s.tables ∧
      (faultListChanged s).pending = s.pending ∧
      (faultListChanged s).wheel = s.wheel ∧
      (faultListChanged s).reference = s.reference ∧
      (faultListChanged s).demand = s.demand ∧
      (faultListChanged s).chan = s.chan ∧
      (faultListChanged s).scheduler = s.scheduler ∧
      (faultListChanged s).monitor = s.monitor ∧
      (faultListChanged s).control = s.control ∧
      (faultListChanged s).downstream = s.downstream ∧
      (faultListChanged s).fifos.down = s.fifos.down ∧
      (faultListChanged s).management.queue = s.management.queue ∧
      (faultListChanged s).management.responder = s.management.responder ∧
      (faultListChanged s).port.d = s.port.d ∧
      (faultListChanged s).reporter.timer = s.reporter.timer ∧
      (faultListChanged s).port.u.rx = s.port.u.rx := by
  unfold faultListChanged; split <;> simp [Reporter.show]

@[simp] theorem writePending_keeps (c : Chan) (x : Command) (s : State) :
    (writePending c x s).variant = s.variant ∧
      (writePending c x s).address = s.address ∧
      (writePending c x s).now = s.now ∧
      (writePending c x s).tables = s.tables ∧
      (writePending c x s).pending = s.pending ∧
      (writePending c x s).wheel = s.wheel ∧
      (writePending c x s).reference = s.reference ∧
      (writePending c x s).demand = s.demand ∧
      (writePending c x s).chan = s.chan ∧
      (writePending c x s).monitor = s.monitor ∧
      (writePending c x s).control = s.control ∧
      (writePending c x s).reporter = s.reporter ∧
      (writePending c x s).downstream = s.downstream ∧
      (writePending c x s).upstream = s.upstream ∧
      (writePending c x s).fifos = s.fifos ∧
      (writePending c x s).management = s.management ∧
      (writePending c x s).port = s.port ∧
      (writePending c x s).scheduler.cycle = s.scheduler.cycle := by
  unfold writePending; simp

@[simp] theorem withdrawPending_keeps (c : Chan) (s : State) :
    (withdrawPending c s).variant = s.variant ∧
      (withdrawPending c s).address = s.address ∧
      (withdrawPending c s).now = s.now ∧
      (withdrawPending c s).tables = s.tables ∧
      (withdrawPending c s).pending = s.pending ∧
      (withdrawPending c s).wheel = s.wheel ∧
      (withdrawPending c s).reference = s.reference ∧
      (withdrawPending c s).demand = s.demand ∧
      (withdrawPending c s).chan = s.chan ∧
      (withdrawPending c s).monitor = s.monitor ∧
      (withdrawPending c s).control = s.control ∧
      (withdrawPending c s).reporter = s.reporter ∧
      (withdrawPending c s).downstream = s.downstream ∧
      (withdrawPending c s).upstream = s.upstream ∧
      (withdrawPending c s).fifos = s.fifos ∧
      (withdrawPending c s).management = s.management ∧
      (withdrawPending c s).port = s.port ∧
      (withdrawPending c s).scheduler.cycle = s.scheduler.cycle := by
  unfold withdrawPending; simp

@[simp] theorem placeCommand_keeps (c : Chan) (x : Command) (s : State) :
    (placeCommand c x s).variant = s.variant ∧
      (placeCommand c x s).address = s.address ∧
      (placeCommand c x s).now = s.now ∧
      (placeCommand c x s).tables = s.tables ∧
      (placeCommand c x s).pending = s.pending ∧
      (placeCommand c x s).wheel = s.wheel ∧
      (placeCommand c x s).reference = s.reference ∧
      (placeCommand c x s).demand = s.demand ∧
      (placeCommand c x s).chan = s.chan ∧
      (placeCommand c x s).scheduler = s.scheduler ∧
      (placeCommand c x s).monitor = s.monitor ∧
      (placeCommand c x s).control = s.control ∧
      (placeCommand c x s).reporter = s.reporter ∧
      (placeCommand c x s).upstream = s.upstream ∧
      (placeCommand c x s).fifos = s.fifos ∧
      (placeCommand c x s).management = s.management ∧
      (placeCommand c x s).port = s.port ∧
      (placeCommand c x s).downstream.lastServed = s.downstream.lastServed := by
  unfold placeCommand; simp

@[simp] theorem entryReplacement_keeps (c : Chan) (x : Command) (s : State) :
    (entryReplacement c x s).variant = s.variant ∧
      (entryReplacement c x s).address = s.address ∧
      (entryReplacement c x s).now = s.now ∧
      (entryReplacement c x s).tables = s.tables ∧
      (entryReplacement c x s).pending = s.pending ∧
      (entryReplacement c x s).wheel = s.wheel ∧
      (entryReplacement c x s).reference = s.reference ∧
      (entryReplacement c x s).demand = s.demand ∧
      (entryReplacement c x s).chan = s.chan ∧
      (entryReplacement c x s).scheduler = s.scheduler ∧
      (entryReplacement c x s).monitor = s.monitor ∧
      (entryReplacement c x s).control = s.control ∧
      (entryReplacement c x s).reporter = s.reporter ∧
      (entryReplacement c x s).upstream = s.upstream ∧
      (entryReplacement c x s).management = s.management ∧
      (entryReplacement c x s).fifos.up = s.fifos.up ∧
      (entryReplacement c x s).port.u = s.port.u ∧
      (entryReplacement c x s).port.d.rx = s.port.d.rx := by
  unfold entryReplacement; (repeat' split) <;> simp

@[simp] theorem placeCommand_all_keeps (cs : List Chan) (x : Command) (s : State) :
    (forChans cs (fun c => placeCommand c x) s).variant = s.variant ∧
      (forChans cs (fun c => placeCommand c x) s).address = s.address ∧
      (forChans cs (fun c => placeCommand c x) s).now = s.now ∧
      (forChans cs (fun c => placeCommand c x) s).tables = s.tables ∧
      (forChans cs (fun c => placeCommand c x) s).pending = s.pending ∧
      (forChans cs (fun c => placeCommand c x) s).wheel = s.wheel ∧
      (forChans cs (fun c => placeCommand c x) s).reference = s.reference ∧
      (forChans cs (fun c => placeCommand c x) s).demand = s.demand ∧
      (forChans cs (fun c => placeCommand c x) s).chan = s.chan ∧
      (forChans cs (fun c => placeCommand c x) s).scheduler = s.scheduler ∧
      (forChans cs (fun c => placeCommand c x) s).monitor = s.monitor ∧
      (forChans cs (fun c => placeCommand c x) s).control = s.control ∧
      (forChans cs (fun c => placeCommand c x) s).reporter = s.reporter ∧
      (forChans cs (fun c => placeCommand c x) s).upstream = s.upstream ∧
      (forChans cs (fun c => placeCommand c x) s).fifos = s.fifos ∧
      (forChans cs (fun c => placeCommand c x) s).management = s.management ∧
      (forChans cs (fun c => placeCommand c x) s).port = s.port ∧
      (forChans cs (fun c => placeCommand c x) s).downstream.lastServed = s.downstream.lastServed := by
  induction cs generalizing s <;> simp_all [forChans_nil, forChans_cons]

@[simp] theorem purge_keeps (s : State) :
    (purge s).variant = s.variant ∧
      (purge s).address = s.address ∧
      (purge s).now = s.now ∧
      (purge s).tables = s.tables ∧
      (purge s).pending = s.pending ∧
      (purge s).wheel = s.wheel ∧
      (purge s).reference = s.reference ∧
      (purge s).demand = s.demand ∧
      (purge s).chan = s.chan ∧
      (purge s).scheduler = s.scheduler ∧
      (purge s).monitor = s.monitor ∧
      (purge s).control = s.control ∧
      (purge s).reporter = s.reporter ∧
      (purge s).upstream = s.upstream ∧
      (purge s).management = s.management ∧
      (purge s).fifos.up = s.fifos.up ∧
      (purge s).port.u = s.port.u ∧
      (purge s).port.d.rx = s.port.d.rx := by
  unfold purge; simp

@[simp] theorem clearing_keeps (s : State) :
    (clearing s).variant = s.variant ∧
      (clearing s).address = s.address ∧
      (clearing s).now = s.now ∧
      (clearing s).tables = s.tables ∧
      (clearing s).pending = s.pending ∧
      (clearing s).wheel = s.wheel ∧
      (clearing s).reference = s.reference ∧
      (clearing s).demand = s.demand ∧
      (clearing s).chan = s.chan ∧
      (clearing s).scheduler = s.scheduler ∧
      (clearing s).monitor = s.monitor ∧
      (clearing s).control = s.control ∧
      (clearing s).reporter = s.reporter ∧
      (clearing s).upstream = s.upstream ∧
      (clearing s).fifos = s.fifos ∧
      (clearing s).management = s.management ∧
      (clearing s).port = s.port ∧
      (clearing s).downstream.lastServed = s.downstream.lastServed := by
  unfold clearing; simp

@[simp] theorem joinFifo_keeps (d : Direction) (x : Frame) (s : State) :
    (joinFifo d x s).variant = s.variant ∧
      (joinFifo d x s).address = s.address ∧
      (joinFifo d x s).now = s.now ∧
      (joinFifo d x s).tables = s.tables ∧
      (joinFifo d x s).pending = s.pending ∧
      (joinFifo d x s).wheel = s.wheel ∧
      (joinFifo d x s).reference = s.reference ∧
      (joinFifo d x s).demand = s.demand ∧
      (joinFifo d x s).chan = s.chan ∧
      (joinFifo d x s).scheduler = s.scheduler ∧
      (joinFifo d x s).monitor = s.monitor ∧
      (joinFifo d x s).control = s.control ∧
      (joinFifo d x s).reporter = s.reporter ∧
      (joinFifo d x s).management.queue = s.management.queue ∧
      (joinFifo d x s).management.responder = s.management.responder ∧
      (joinFifo d x s).port.u.rx = s.port.u.rx ∧
      (joinFifo d x s).port.d.rx = s.port.d.rx := by
  unfold joinFifo; (repeat' split) <;> simp

@[simp] theorem setTarget_keeps (c : Chan) (v : Nat) (s : State) :
    (setTarget c v s).variant = s.variant ∧
      (setTarget c v s).address = s.address ∧
      (setTarget c v s).now = s.now ∧
      (setTarget c v s).tables = s.tables ∧
      (setTarget c v s).pending = s.pending ∧
      (setTarget c v s).wheel = s.wheel ∧
      (setTarget c v s).reference = s.reference ∧
      (setTarget c v s).chan = s.chan ∧
      (setTarget c v s).scheduler = s.scheduler ∧
      (setTarget c v s).monitor = s.monitor ∧
      (setTarget c v s).control = s.control ∧
      (setTarget c v s).reporter = s.reporter ∧
      (setTarget c v s).downstream = s.downstream ∧
      (setTarget c v s).upstream = s.upstream ∧
      (setTarget c v s).fifos = s.fifos ∧
      (setTarget c v s).management = s.management ∧
      (setTarget c v s).port = s.port ∧
      (setTarget c v s).demand.demand = s.demand.demand ∧
      (setTarget c v s).demand.lastSeq = s.demand.lastSeq ∧
      (setTarget c v s).demand.stamp = s.demand.stamp ∧
      (setTarget c v s).demand.stale = s.demand.stale ∧
      (setTarget c v s).demand.lost = s.demand.lost ∧
      (setTarget c v s).demand.deadline1 = s.demand.deadline1 ∧
      (setTarget c v s).demand.deadline2 = s.demand.deadline2 ∧
      (setTarget c v s).demand.doorOpen = s.demand.doorOpen ∧
      (setTarget c v s).demand.stopHold = s.demand.stopHold ∧
      (setTarget c v s).demand.load = s.demand.load ∧
      (setTarget c v s).demand.supply = s.demand.supply := by
  unfold setTarget; simp

@[simp] theorem zeroTargets_keeps (s : State) :
    (zeroTargets s).variant = s.variant ∧
      (zeroTargets s).address = s.address ∧
      (zeroTargets s).now = s.now ∧
      (zeroTargets s).tables = s.tables ∧
      (zeroTargets s).pending = s.pending ∧
      (zeroTargets s).wheel = s.wheel ∧
      (zeroTargets s).reference = s.reference ∧
      (zeroTargets s).chan = s.chan ∧
      (zeroTargets s).scheduler = s.scheduler ∧
      (zeroTargets s).monitor = s.monitor ∧
      (zeroTargets s).control = s.control ∧
      (zeroTargets s).reporter = s.reporter ∧
      (zeroTargets s).downstream = s.downstream ∧
      (zeroTargets s).upstream = s.upstream ∧
      (zeroTargets s).fifos = s.fifos ∧
      (zeroTargets s).management = s.management ∧
      (zeroTargets s).port = s.port ∧
      (zeroTargets s).demand.demand = s.demand.demand ∧
      (zeroTargets s).demand.lastSeq = s.demand.lastSeq ∧
      (zeroTargets s).demand.stamp = s.demand.stamp ∧
      (zeroTargets s).demand.stale = s.demand.stale ∧
      (zeroTargets s).demand.lost = s.demand.lost ∧
      (zeroTargets s).demand.deadline1 = s.demand.deadline1 ∧
      (zeroTargets s).demand.deadline2 = s.demand.deadline2 ∧
      (zeroTargets s).demand.doorOpen = s.demand.doorOpen ∧
      (zeroTargets s).demand.stopHold = s.demand.stopHold ∧
      (zeroTargets s).demand.load = s.demand.load ∧
      (zeroTargets s).demand.supply = s.demand.supply := by
  unfold zeroTargets; simp

@[simp] theorem entrySlots_keeps (c : Chan) (st : ChanState) (s : State) :
    (entrySlots c st s).variant = s.variant ∧
      (entrySlots c st s).address = s.address ∧
      (entrySlots c st s).now = s.now ∧
      (entrySlots c st s).tables = s.tables ∧
      (entrySlots c st s).pending = s.pending ∧
      (entrySlots c st s).wheel = s.wheel ∧
      (entrySlots c st s).reference = s.reference ∧
      (entrySlots c st s).demand = s.demand ∧
      (entrySlots c st s).chan = s.chan ∧
      (entrySlots c st s).monitor = s.monitor ∧
      (entrySlots c st s).control = s.control ∧
      (entrySlots c st s).reporter = s.reporter ∧
      (entrySlots c st s).upstream = s.upstream ∧
      (entrySlots c st s).management = s.management ∧
      (entrySlots c st s).scheduler.cycle = s.scheduler.cycle ∧
      (entrySlots c st s).fifos.up = s.fifos.up ∧
      (entrySlots c st s).port.u = s.port.u ∧
      (entrySlots c st s).port.d.rx = s.port.d.rx := by
  unfold entrySlots; (repeat' split) <;> simp

@[simp] theorem settlePart_keeps (s : State) :
    (settlePart s).variant = s.variant ∧
      (settlePart s).address = s.address ∧
      (settlePart s).now = s.now ∧
      (settlePart s).tables = s.tables ∧
      (settlePart s).pending = s.pending ∧
      (settlePart s).wheel = s.wheel ∧
      (settlePart s).reference = s.reference ∧
      (settlePart s).demand = s.demand ∧
      (settlePart s).chan = s.chan ∧
      (settlePart s).scheduler = s.scheduler ∧
      (settlePart s).monitor = s.monitor ∧
      (settlePart s).downstream = s.downstream ∧
      (settlePart s).control.cause = s.control.cause ∧
      (settlePart s).control.written = s.control.written ∧
      (settlePart s).control.commit = s.control.commit ∧
      (settlePart s).control.heldOut = s.control.heldOut ∧
      (settlePart s).reporter.timer = s.reporter.timer ∧
      (settlePart s).fifos.down = s.fifos.down ∧
      (settlePart s).management.queue = s.management.queue ∧
      (settlePart s).management.responder = s.management.responder ∧
      (settlePart s).port.d = s.port.d ∧
      (settlePart s).port.u.rx = s.port.u.rx := by
  unfold settlePart; (repeat' split) <;> simp

@[simp] theorem valveDecision_keeps (t : Time) (c : Chan) (s : State) :
    (valveDecision t c s).variant = s.variant ∧
      (valveDecision t c s).address = s.address ∧
      (valveDecision t c s).now = s.now ∧
      (valveDecision t c s).tables = s.tables ∧
      (valveDecision t c s).pending = s.pending ∧
      (valveDecision t c s).wheel = s.wheel ∧
      (valveDecision t c s).reference = s.reference ∧
      (valveDecision t c s).demand = s.demand ∧
      (valveDecision t c s).chan = s.chan ∧
      (valveDecision t c s).monitor = s.monitor ∧
      (valveDecision t c s).control = s.control ∧
      (valveDecision t c s).reporter = s.reporter ∧
      (valveDecision t c s).downstream = s.downstream ∧
      (valveDecision t c s).upstream = s.upstream ∧
      (valveDecision t c s).fifos = s.fifos ∧
      (valveDecision t c s).management = s.management ∧
      (valveDecision t c s).port = s.port ∧
      (valveDecision t c s).scheduler.cycle = s.scheduler.cycle := by
  unfold valveDecision; (try dsimp only); (repeat' split) <;> simp

@[simp] theorem targetChange_keeps (c : Chan) (s : State) :
    (targetChange c s).variant = s.variant ∧
      (targetChange c s).address = s.address ∧
      (targetChange c s).now = s.now ∧
      (targetChange c s).tables = s.tables ∧
      (targetChange c s).pending = s.pending ∧
      (targetChange c s).wheel = s.wheel ∧
      (targetChange c s).reference = s.reference ∧
      (targetChange c s).demand = s.demand ∧
      (targetChange c s).chan = s.chan ∧
      (targetChange c s).monitor = s.monitor ∧
      (targetChange c s).control = s.control ∧
      (targetChange c s).reporter = s.reporter ∧
      (targetChange c s).downstream = s.downstream ∧
      (targetChange c s).upstream = s.upstream ∧
      (targetChange c s).fifos = s.fifos ∧
      (targetChange c s).management = s.management ∧
      (targetChange c s).port = s.port ∧
      (targetChange c s).scheduler.cycle = s.scheduler.cycle := by
  unfold targetChange; (try dsimp only); (repeat' split) <;> simp

@[simp] theorem retarget_keeps (c : Chan) (s : State) :
    (retarget c s).variant = s.variant ∧
      (retarget c s).address = s.address ∧
      (retarget c s).now = s.now ∧
      (retarget c s).tables = s.tables ∧
      (retarget c s).pending = s.pending ∧
      (retarget c s).wheel = s.wheel ∧
      (retarget c s).reference = s.reference ∧
      (retarget c s).chan = s.chan ∧
      (retarget c s).monitor = s.monitor ∧
      (retarget c s).control = s.control ∧
      (retarget c s).reporter = s.reporter ∧
      (retarget c s).downstream = s.downstream ∧
      (retarget c s).upstream = s.upstream ∧
      (retarget c s).fifos = s.fifos ∧
      (retarget c s).management = s.management ∧
      (retarget c s).port = s.port ∧
      (retarget c s).demand.demand = s.demand.demand ∧
      (retarget c s).demand.lastSeq = s.demand.lastSeq ∧
      (retarget c s).demand.stamp = s.demand.stamp ∧
      (retarget c s).demand.stale = s.demand.stale ∧
      (retarget c s).demand.lost = s.demand.lost ∧
      (retarget c s).demand.deadline1 = s.demand.deadline1 ∧
      (retarget c s).demand.deadline2 = s.demand.deadline2 ∧
      (retarget c s).demand.doorOpen = s.demand.doorOpen ∧
      (retarget c s).demand.stopHold = s.demand.stopHold ∧
      (retarget c s).demand.load = s.demand.load ∧
      (retarget c s).demand.supply = s.demand.supply ∧
      (retarget c s).scheduler.cycle = s.scheduler.cycle := by
  unfold retarget; (repeat' split) <;> simp

@[simp] theorem retarget_all_keeps (cs : List Chan) (s : State) :
    (forChans cs retarget s).variant = s.variant ∧
      (forChans cs retarget s).address = s.address ∧
      (forChans cs retarget s).now = s.now ∧
      (forChans cs retarget s).tables = s.tables ∧
      (forChans cs retarget s).pending = s.pending ∧
      (forChans cs retarget s).wheel = s.wheel ∧
      (forChans cs retarget s).reference = s.reference ∧
      (forChans cs retarget s).chan = s.chan ∧
      (forChans cs retarget s).monitor = s.monitor ∧
      (forChans cs retarget s).control = s.control ∧
      (forChans cs retarget s).reporter = s.reporter ∧
      (forChans cs retarget s).downstream = s.downstream ∧
      (forChans cs retarget s).upstream = s.upstream ∧
      (forChans cs retarget s).fifos = s.fifos ∧
      (forChans cs retarget s).management = s.management ∧
      (forChans cs retarget s).port = s.port ∧
      (forChans cs retarget s).demand.demand = s.demand.demand ∧
      (forChans cs retarget s).demand.lastSeq = s.demand.lastSeq ∧
      (forChans cs retarget s).demand.stamp = s.demand.stamp ∧
      (forChans cs retarget s).demand.stale = s.demand.stale ∧
      (forChans cs retarget s).demand.lost = s.demand.lost ∧
      (forChans cs retarget s).demand.deadline1 = s.demand.deadline1 ∧
      (forChans cs retarget s).demand.deadline2 = s.demand.deadline2 ∧
      (forChans cs retarget s).demand.doorOpen = s.demand.doorOpen ∧
      (forChans cs retarget s).demand.stopHold = s.demand.stopHold ∧
      (forChans cs retarget s).demand.load = s.demand.load ∧
      (forChans cs retarget s).demand.supply = s.demand.supply ∧
      (forChans cs retarget s).scheduler.cycle = s.scheduler.cycle := by
  induction cs generalizing s <;> simp_all [forChans_nil, forChans_cons]

@[simp] theorem recompute_keeps (cs : List Chan) (s : State) :
    (recompute cs s).variant = s.variant ∧
      (recompute cs s).address = s.address ∧
      (recompute cs s).now = s.now ∧
      (recompute cs s).tables = s.tables ∧
      (recompute cs s).pending = s.pending ∧
      (recompute cs s).wheel = s.wheel ∧
      (recompute cs s).reference = s.reference ∧
      (recompute cs s).chan = s.chan ∧
      (recompute cs s).monitor = s.monitor ∧
      (recompute cs s).control = s.control ∧
      (recompute cs s).reporter = s.reporter ∧
      (recompute cs s).downstream = s.downstream ∧
      (recompute cs s).upstream = s.upstream ∧
      (recompute cs s).fifos = s.fifos ∧
      (recompute cs s).management = s.management ∧
      (recompute cs s).port = s.port ∧
      (recompute cs s).demand.demand = s.demand.demand ∧
      (recompute cs s).demand.lastSeq = s.demand.lastSeq ∧
      (recompute cs s).demand.stamp = s.demand.stamp ∧
      (recompute cs s).demand.stale = s.demand.stale ∧
      (recompute cs s).demand.lost = s.demand.lost ∧
      (recompute cs s).demand.deadline1 = s.demand.deadline1 ∧
      (recompute cs s).demand.deadline2 = s.demand.deadline2 ∧
      (recompute cs s).demand.doorOpen = s.demand.doorOpen ∧
      (recompute cs s).demand.stopHold = s.demand.stopHold ∧
      (recompute cs s).demand.load = s.demand.load ∧
      (recompute cs s).demand.supply = s.demand.supply ∧
      (recompute cs s).scheduler.cycle = s.scheduler.cycle := by
  unfold recompute; (repeat' split) <;> simp

@[simp] theorem recomputeAll_keeps (s : State) :
    (recomputeAll s).variant = s.variant ∧
      (recomputeAll s).address = s.address ∧
      (recomputeAll s).now = s.now ∧
      (recomputeAll s).tables = s.tables ∧
      (recomputeAll s).pending = s.pending ∧
      (recomputeAll s).wheel = s.wheel ∧
      (recomputeAll s).reference = s.reference ∧
      (recomputeAll s).chan = s.chan ∧
      (recomputeAll s).monitor = s.monitor ∧
      (recomputeAll s).control = s.control ∧
      (recomputeAll s).reporter = s.reporter ∧
      (recomputeAll s).downstream = s.downstream ∧
      (recomputeAll s).upstream = s.upstream ∧
      (recomputeAll s).fifos = s.fifos ∧
      (recomputeAll s).management = s.management ∧
      (recomputeAll s).port = s.port ∧
      (recomputeAll s).demand.demand = s.demand.demand ∧
      (recomputeAll s).demand.lastSeq = s.demand.lastSeq ∧
      (recomputeAll s).demand.stamp = s.demand.stamp ∧
      (recomputeAll s).demand.stale = s.demand.stale ∧
      (recomputeAll s).demand.lost = s.demand.lost ∧
      (recomputeAll s).demand.deadline1 = s.demand.deadline1 ∧
      (recomputeAll s).demand.deadline2 = s.demand.deadline2 ∧
      (recomputeAll s).demand.doorOpen = s.demand.doorOpen ∧
      (recomputeAll s).demand.stopHold = s.demand.stopHold ∧
      (recomputeAll s).demand.load = s.demand.load ∧
      (recomputeAll s).demand.supply = s.demand.supply ∧
      (recomputeAll s).scheduler.cycle = s.scheduler.cycle := by
  unfold recomputeAll; simp

@[simp] theorem notifyDemand_keeps (c : Chan) (s : State) :
    (notifyDemand c s).variant = s.variant ∧
      (notifyDemand c s).address = s.address ∧
      (notifyDemand c s).now = s.now ∧
      (notifyDemand c s).tables = s.tables ∧
      (notifyDemand c s).pending = s.pending ∧
      (notifyDemand c s).wheel = s.wheel ∧
      (notifyDemand c s).reference = s.reference ∧
      (notifyDemand c s).chan = s.chan ∧
      (notifyDemand c s).monitor = s.monitor ∧
      (notifyDemand c s).control = s.control ∧
      (notifyDemand c s).reporter = s.reporter ∧
      (notifyDemand c s).downstream = s.downstream ∧
      (notifyDemand c s).upstream = s.upstream ∧
      (notifyDemand c s).fifos = s.fifos ∧
      (notifyDemand c s).management = s.management ∧
      (notifyDemand c s).port = s.port ∧
      (notifyDemand c s).demand.demand = s.demand.demand ∧
      (notifyDemand c s).demand.lastSeq = s.demand.lastSeq ∧
      (notifyDemand c s).demand.stamp = s.demand.stamp ∧
      (notifyDemand c s).demand.stale = s.demand.stale ∧
      (notifyDemand c s).demand.lost = s.demand.lost ∧
      (notifyDemand c s).demand.deadline1 = s.demand.deadline1 ∧
      (notifyDemand c s).demand.deadline2 = s.demand.deadline2 ∧
      (notifyDemand c s).demand.doorOpen = s.demand.doorOpen ∧
      (notifyDemand c s).demand.stopHold = s.demand.stopHold ∧
      (notifyDemand c s).demand.load = s.demand.load ∧
      (notifyDemand c s).demand.supply = s.demand.supply ∧
      (notifyDemand c s).scheduler.cycle = s.scheduler.cycle := by
  unfold notifyDemand; (repeat' split) <;> simp

@[simp] theorem enterState_keeps (c : Chan) (st : ChanState) (s : State) :
    (enterState c st s).variant = s.variant ∧
      (enterState c st s).address = s.address ∧
      (enterState c st s).now = s.now ∧
      (enterState c st s).tables = s.tables ∧
      (enterState c st s).pending = s.pending ∧
      (enterState c st s).wheel = s.wheel ∧
      (enterState c st s).reference = s.reference ∧
      (enterState c st s).monitor = s.monitor ∧
      (enterState c st s).control = s.control ∧
      (enterState c st s).reporter = s.reporter ∧
      (enterState c st s).upstream = s.upstream ∧
      (enterState c st s).management = s.management ∧
      (enterState c st s).demand.demand = s.demand.demand ∧
      (enterState c st s).demand.lastSeq = s.demand.lastSeq ∧
      (enterState c st s).demand.stamp = s.demand.stamp ∧
      (enterState c st s).demand.stale = s.demand.stale ∧
      (enterState c st s).demand.lost = s.demand.lost ∧
      (enterState c st s).demand.deadline1 = s.demand.deadline1 ∧
      (enterState c st s).demand.deadline2 = s.demand.deadline2 ∧
      (enterState c st s).demand.doorOpen = s.demand.doorOpen ∧
      (enterState c st s).demand.stopHold = s.demand.stopHold ∧
      (enterState c st s).demand.load = s.demand.load ∧
      (enterState c st s).demand.supply = s.demand.supply ∧
      (enterState c st s).scheduler.cycle = s.scheduler.cycle ∧
      (enterState c st s).fifos.up = s.fifos.up ∧
      (enterState c st s).port.u = s.port.u ∧
      (enterState c st s).port.d.rx = s.port.d.rx := by
  unfold enterState; (repeat' split) <;> simp

@[simp] theorem holdReport_keeps (c : Chan) (s : State) :
    (holdReport c s).variant = s.variant ∧
      (holdReport c s).address = s.address ∧
      (holdReport c s).now = s.now ∧
      (holdReport c s).tables = s.tables ∧
      (holdReport c s).pending = s.pending ∧
      (holdReport c s).wheel = s.wheel ∧
      (holdReport c s).reference = s.reference ∧
      (holdReport c s).demand = s.demand ∧
      (holdReport c s).chan = s.chan ∧
      (holdReport c s).scheduler = s.scheduler ∧
      (holdReport c s).monitor = s.monitor ∧
      (holdReport c s).downstream = s.downstream ∧
      (holdReport c s).control.cause = s.control.cause ∧
      (holdReport c s).control.written = s.control.written ∧
      (holdReport c s).control.commit = s.control.commit ∧
      (holdReport c s).reporter.timer = s.reporter.timer ∧
      (holdReport c s).fifos.down = s.fifos.down ∧
      (holdReport c s).management.queue = s.management.queue ∧
      (holdReport c s).management.responder = s.management.responder ∧
      (holdReport c s).port.d = s.port.d ∧
      (holdReport c s).port.u.rx = s.port.u.rx := by
  unfold holdReport; (try dsimp only); (repeat' split) <;> simp

@[simp] theorem leaveYielded_keeps (c : Chan) (s : State) :
    (leaveYielded c s).variant = s.variant ∧
      (leaveYielded c s).address = s.address ∧
      (leaveYielded c s).now = s.now ∧
      (leaveYielded c s).tables = s.tables ∧
      (leaveYielded c s).pending = s.pending ∧
      (leaveYielded c s).wheel = s.wheel ∧
      (leaveYielded c s).reference = s.reference ∧
      (leaveYielded c s).monitor = s.monitor ∧
      (leaveYielded c s).control = s.control ∧
      (leaveYielded c s).reporter = s.reporter ∧
      (leaveYielded c s).upstream = s.upstream ∧
      (leaveYielded c s).management = s.management ∧
      (leaveYielded c s).demand.demand = s.demand.demand ∧
      (leaveYielded c s).demand.lastSeq = s.demand.lastSeq ∧
      (leaveYielded c s).demand.stamp = s.demand.stamp ∧
      (leaveYielded c s).demand.stale = s.demand.stale ∧
      (leaveYielded c s).demand.lost = s.demand.lost ∧
      (leaveYielded c s).demand.deadline1 = s.demand.deadline1 ∧
      (leaveYielded c s).demand.deadline2 = s.demand.deadline2 ∧
      (leaveYielded c s).demand.doorOpen = s.demand.doorOpen ∧
      (leaveYielded c s).demand.stopHold = s.demand.stopHold ∧
      (leaveYielded c s).demand.load = s.demand.load ∧
      (leaveYielded c s).demand.supply = s.demand.supply ∧
      (leaveYielded c s).scheduler.cycle = s.scheduler.cycle ∧
      (leaveYielded c s).fifos.up = s.fifos.up ∧
      (leaveYielded c s).port.u = s.port.u ∧
      (leaveYielded c s).port.d.rx = s.port.d.rx := by
  unfold leaveYielded; (repeat' split) <;> simp

@[simp] theorem leaveYielded_all_keeps (cs : List Chan) (s : State) :
    (forChans cs leaveYielded s).variant = s.variant ∧
      (forChans cs leaveYielded s).address = s.address ∧
      (forChans cs leaveYielded s).now = s.now ∧
      (forChans cs leaveYielded s).tables = s.tables ∧
      (forChans cs leaveYielded s).pending = s.pending ∧
      (forChans cs leaveYielded s).wheel = s.wheel ∧
      (forChans cs leaveYielded s).reference = s.reference ∧
      (forChans cs leaveYielded s).monitor = s.monitor ∧
      (forChans cs leaveYielded s).control = s.control ∧
      (forChans cs leaveYielded s).reporter = s.reporter ∧
      (forChans cs leaveYielded s).upstream = s.upstream ∧
      (forChans cs leaveYielded s).management = s.management ∧
      (forChans cs leaveYielded s).demand.demand = s.demand.demand ∧
      (forChans cs leaveYielded s).demand.lastSeq = s.demand.lastSeq ∧
      (forChans cs leaveYielded s).demand.stamp = s.demand.stamp ∧
      (forChans cs leaveYielded s).demand.stale = s.demand.stale ∧
      (forChans cs leaveYielded s).demand.lost = s.demand.lost ∧
      (forChans cs leaveYielded s).demand.deadline1 = s.demand.deadline1 ∧
      (forChans cs leaveYielded s).demand.deadline2 = s.demand.deadline2 ∧
      (forChans cs leaveYielded s).demand.doorOpen = s.demand.doorOpen ∧
      (forChans cs leaveYielded s).demand.stopHold = s.demand.stopHold ∧
      (forChans cs leaveYielded s).demand.load = s.demand.load ∧
      (forChans cs leaveYielded s).demand.supply = s.demand.supply ∧
      (forChans cs leaveYielded s).scheduler.cycle = s.scheduler.cycle ∧
      (forChans cs leaveYielded s).fifos.up = s.fifos.up ∧
      (forChans cs leaveYielded s).port.u = s.port.u ∧
      (forChans cs leaveYielded s).port.d.rx = s.port.d.rx := by
  induction cs generalizing s <;> simp_all [forChans_nil, forChans_cons]

@[simp] theorem evaluateHold_keeps (c : Chan) (s : State) :
    (evaluateHold c s).variant = s.variant ∧
      (evaluateHold c s).address = s.address ∧
      (evaluateHold c s).now = s.now ∧
      (evaluateHold c s).tables = s.tables ∧
      (evaluateHold c s).pending = s.pending ∧
      (evaluateHold c s).wheel = s.wheel ∧
      (evaluateHold c s).reference = s.reference ∧
      (evaluateHold c s).monitor = s.monitor ∧
      (evaluateHold c s).demand.demand = s.demand.demand ∧
      (evaluateHold c s).demand.lastSeq = s.demand.lastSeq ∧
      (evaluateHold c s).demand.stamp = s.demand.stamp ∧
      (evaluateHold c s).demand.stale = s.demand.stale ∧
      (evaluateHold c s).demand.lost = s.demand.lost ∧
      (evaluateHold c s).demand.deadline1 = s.demand.deadline1 ∧
      (evaluateHold c s).demand.deadline2 = s.demand.deadline2 ∧
      (evaluateHold c s).demand.doorOpen = s.demand.doorOpen ∧
      (evaluateHold c s).demand.stopHold = s.demand.stopHold ∧
      (evaluateHold c s).demand.load = s.demand.load ∧
      (evaluateHold c s).demand.supply = s.demand.supply ∧
      (evaluateHold c s).scheduler.cycle = s.scheduler.cycle ∧
      (evaluateHold c s).control.cause = s.control.cause ∧
      (evaluateHold c s).control.written = s.control.written ∧
      (evaluateHold c s).control.commit = s.control.commit ∧
      (evaluateHold c s).reporter.timer = s.reporter.timer ∧
      (evaluateHold c s).management.queue = s.management.queue ∧
      (evaluateHold c s).management.responder = s.management.responder ∧
      (evaluateHold c s).port.u.rx = s.port.u.rx ∧
      (evaluateHold c s).port.d.rx = s.port.d.rx := by
  unfold evaluateHold; (try dsimp only); (repeat' split) <;> simp

@[simp] theorem evaluateHold_all_keeps (cs : List Chan) (s : State) :
    (forChans cs evaluateHold s).variant = s.variant ∧
      (forChans cs evaluateHold s).address = s.address ∧
      (forChans cs evaluateHold s).now = s.now ∧
      (forChans cs evaluateHold s).tables = s.tables ∧
      (forChans cs evaluateHold s).pending = s.pending ∧
      (forChans cs evaluateHold s).wheel = s.wheel ∧
      (forChans cs evaluateHold s).reference = s.reference ∧
      (forChans cs evaluateHold s).monitor = s.monitor ∧
      (forChans cs evaluateHold s).demand.demand = s.demand.demand ∧
      (forChans cs evaluateHold s).demand.lastSeq = s.demand.lastSeq ∧
      (forChans cs evaluateHold s).demand.stamp = s.demand.stamp ∧
      (forChans cs evaluateHold s).demand.stale = s.demand.stale ∧
      (forChans cs evaluateHold s).demand.lost = s.demand.lost ∧
      (forChans cs evaluateHold s).demand.deadline1 = s.demand.deadline1 ∧
      (forChans cs evaluateHold s).demand.deadline2 = s.demand.deadline2 ∧
      (forChans cs evaluateHold s).demand.doorOpen = s.demand.doorOpen ∧
      (forChans cs evaluateHold s).demand.stopHold = s.demand.stopHold ∧
      (forChans cs evaluateHold s).demand.load = s.demand.load ∧
      (forChans cs evaluateHold s).demand.supply = s.demand.supply ∧
      (forChans cs evaluateHold s).scheduler.cycle = s.scheduler.cycle ∧
      (forChans cs evaluateHold s).control.cause = s.control.cause ∧
      (forChans cs evaluateHold s).control.written = s.control.written ∧
      (forChans cs evaluateHold s).control.commit = s.control.commit ∧
      (forChans cs evaluateHold s).reporter.timer = s.reporter.timer ∧
      (forChans cs evaluateHold s).management.queue = s.management.queue ∧
      (forChans cs evaluateHold s).management.responder = s.management.responder ∧
      (forChans cs evaluateHold s).port.u.rx = s.port.u.rx ∧
      (forChans cs evaluateHold s).port.d.rx = s.port.d.rx := by
  induction cs generalizing s <;> simp_all [forChans_nil, forChans_cons]

@[simp] theorem evaluateHolds_keeps (a : Axle) (s : State) :
    (evaluateHolds a s).variant = s.variant ∧
      (evaluateHolds a s).address = s.address ∧
      (evaluateHolds a s).now = s.now ∧
      (evaluateHolds a s).tables = s.tables ∧
      (evaluateHolds a s).pending = s.pending ∧
      (evaluateHolds a s).wheel = s.wheel ∧
      (evaluateHolds a s).reference = s.reference ∧
      (evaluateHolds a s).monitor = s.monitor ∧
      (evaluateHolds a s).demand.demand = s.demand.demand ∧
      (evaluateHolds a s).demand.lastSeq = s.demand.lastSeq ∧
      (evaluateHolds a s).demand.stamp = s.demand.stamp ∧
      (evaluateHolds a s).demand.stale = s.demand.stale ∧
      (evaluateHolds a s).demand.lost = s.demand.lost ∧
      (evaluateHolds a s).demand.deadline1 = s.demand.deadline1 ∧
      (evaluateHolds a s).demand.deadline2 = s.demand.deadline2 ∧
      (evaluateHolds a s).demand.doorOpen = s.demand.doorOpen ∧
      (evaluateHolds a s).demand.stopHold = s.demand.stopHold ∧
      (evaluateHolds a s).demand.load = s.demand.load ∧
      (evaluateHolds a s).demand.supply = s.demand.supply ∧
      (evaluateHolds a s).scheduler.cycle = s.scheduler.cycle ∧
      (evaluateHolds a s).control.cause = s.control.cause ∧
      (evaluateHolds a s).control.written = s.control.written ∧
      (evaluateHolds a s).control.commit = s.control.commit ∧
      (evaluateHolds a s).reporter.timer = s.reporter.timer ∧
      (evaluateHolds a s).management.queue = s.management.queue ∧
      (evaluateHolds a s).management.responder = s.management.responder ∧
      (evaluateHolds a s).port.u.rx = s.port.u.rx ∧
      (evaluateHolds a s).port.d.rx = s.port.d.rx := by
  unfold evaluateHolds; simp

@[simp] theorem abortZero_keeps (c : Chan) (s : State) :
    (abortZero c s).variant = s.variant ∧
      (abortZero c s).address = s.address ∧
      (abortZero c s).now = s.now ∧
      (abortZero c s).tables = s.tables ∧
      (abortZero c s).pending = s.pending ∧
      (abortZero c s).wheel = s.wheel ∧
      (abortZero c s).reference = s.reference ∧
      (abortZero c s).monitor = s.monitor ∧
      (abortZero c s).control = s.control ∧
      (abortZero c s).reporter = s.reporter ∧
      (abortZero c s).demand.demand = s.demand.demand ∧
      (abortZero c s).demand.lastSeq = s.demand.lastSeq ∧
      (abortZero c s).demand.stamp = s.demand.stamp ∧
      (abortZero c s).demand.stale = s.demand.stale ∧
      (abortZero c s).demand.lost = s.demand.lost ∧
      (abortZero c s).demand.deadline1 = s.demand.deadline1 ∧
      (abortZero c s).demand.deadline2 = s.demand.deadline2 ∧
      (abortZero c s).demand.doorOpen = s.demand.doorOpen ∧
      (abortZero c s).demand.stopHold = s.demand.stopHold ∧
      (abortZero c s).demand.load = s.demand.load ∧
      (abortZero c s).demand.supply = s.demand.supply ∧
      (abortZero c s).scheduler.cycle = s.scheduler.cycle ∧
      (abortZero c s).management.queue = s.management.queue ∧
      (abortZero c s).management.responder = s.management.responder ∧
      (abortZero c s).port.u.rx = s.port.u.rx ∧
      (abortZero c s).port.d.rx = s.port.d.rx := by
  unfold abortZero; (repeat' split) <;> simp

@[simp] theorem abortIfZeroing_keeps (c : Chan) (s : State) :
    (abortIfZeroing c s).variant = s.variant ∧
      (abortIfZeroing c s).address = s.address ∧
      (abortIfZeroing c s).now = s.now ∧
      (abortIfZeroing c s).tables = s.tables ∧
      (abortIfZeroing c s).pending = s.pending ∧
      (abortIfZeroing c s).wheel = s.wheel ∧
      (abortIfZeroing c s).reference = s.reference ∧
      (abortIfZeroing c s).monitor = s.monitor ∧
      (abortIfZeroing c s).demand.demand = s.demand.demand ∧
      (abortIfZeroing c s).demand.lastSeq = s.demand.lastSeq ∧
      (abortIfZeroing c s).demand.stamp = s.demand.stamp ∧
      (abortIfZeroing c s).demand.stale = s.demand.stale ∧
      (abortIfZeroing c s).demand.lost = s.demand.lost ∧
      (abortIfZeroing c s).demand.deadline1 = s.demand.deadline1 ∧
      (abortIfZeroing c s).demand.deadline2 = s.demand.deadline2 ∧
      (abortIfZeroing c s).demand.doorOpen = s.demand.doorOpen ∧
      (abortIfZeroing c s).demand.stopHold = s.demand.stopHold ∧
      (abortIfZeroing c s).demand.load = s.demand.load ∧
      (abortIfZeroing c s).demand.supply = s.demand.supply ∧
      (abortIfZeroing c s).scheduler.cycle = s.scheduler.cycle ∧
      (abortIfZeroing c s).control.cause = s.control.cause ∧
      (abortIfZeroing c s).control.written = s.control.written ∧
      (abortIfZeroing c s).control.commit = s.control.commit ∧
      (abortIfZeroing c s).reporter.timer = s.reporter.timer ∧
      (abortIfZeroing c s).management.queue = s.management.queue ∧
      (abortIfZeroing c s).management.responder = s.management.responder ∧
      (abortIfZeroing c s).port.u.rx = s.port.u.rx ∧
      (abortIfZeroing c s).port.d.rx = s.port.d.rx := by
  unfold abortIfZeroing; (repeat' split) <;> simp

@[simp] theorem abortIfZeroing_all_keeps (cs : List Chan) (s : State) :
    (forChans cs abortIfZeroing s).variant = s.variant ∧
      (forChans cs abortIfZeroing s).address = s.address ∧
      (forChans cs abortIfZeroing s).now = s.now ∧
      (forChans cs abortIfZeroing s).tables = s.tables ∧
      (forChans cs abortIfZeroing s).pending = s.pending ∧
      (forChans cs abortIfZeroing s).wheel = s.wheel ∧
      (forChans cs abortIfZeroing s).reference = s.reference ∧
      (forChans cs abortIfZeroing s).monitor = s.monitor ∧
      (forChans cs abortIfZeroing s).demand.demand = s.demand.demand ∧
      (forChans cs abortIfZeroing s).demand.lastSeq = s.demand.lastSeq ∧
      (forChans cs abortIfZeroing s).demand.stamp = s.demand.stamp ∧
      (forChans cs abortIfZeroing s).demand.stale = s.demand.stale ∧
      (forChans cs abortIfZeroing s).demand.lost = s.demand.lost ∧
      (forChans cs abortIfZeroing s).demand.deadline1 = s.demand.deadline1 ∧
      (forChans cs abortIfZeroing s).demand.deadline2 = s.demand.deadline2 ∧
      (forChans cs abortIfZeroing s).demand.doorOpen = s.demand.doorOpen ∧
      (forChans cs abortIfZeroing s).demand.stopHold = s.demand.stopHold ∧
      (forChans cs abortIfZeroing s).demand.load = s.demand.load ∧
      (forChans cs abortIfZeroing s).demand.supply = s.demand.supply ∧
      (forChans cs abortIfZeroing s).scheduler.cycle = s.scheduler.cycle ∧
      (forChans cs abortIfZeroing s).control.cause = s.control.cause ∧
      (forChans cs abortIfZeroing s).control.written = s.control.written ∧
      (forChans cs abortIfZeroing s).control.commit = s.control.commit ∧
      (forChans cs abortIfZeroing s).reporter.timer = s.reporter.timer ∧
      (forChans cs abortIfZeroing s).management.queue = s.management.queue ∧
      (forChans cs abortIfZeroing s).management.responder = s.management.responder ∧
      (forChans cs abortIfZeroing s).port.u.rx = s.port.u.rx ∧
      (forChans cs abortIfZeroing s).port.d.rx = s.port.d.rx := by
  induction cs generalizing s <;> simp_all [forChans_nil, forChans_cons]

@[simp] theorem yieldChannel_keeps (c : Chan) (s : State) :
    (yieldChannel c s).variant = s.variant ∧
      (yieldChannel c s).address = s.address ∧
      (yieldChannel c s).now = s.now ∧
      (yieldChannel c s).tables = s.tables ∧
      (yieldChannel c s).pending = s.pending ∧
      (yieldChannel c s).wheel = s.wheel ∧
      (yieldChannel c s).reference = s.reference ∧
      (yieldChannel c s).monitor = s.monitor ∧
      (yieldChannel c s).control = s.control ∧
      (yieldChannel c s).reporter = s.reporter ∧
      (yieldChannel c s).demand.demand = s.demand.demand ∧
      (yieldChannel c s).demand.lastSeq = s.demand.lastSeq ∧
      (yieldChannel c s).demand.stamp = s.demand.stamp ∧
      (yieldChannel c s).demand.stale = s.demand.stale ∧
      (yieldChannel c s).demand.lost = s.demand.lost ∧
      (yieldChannel c s).demand.deadline1 = s.demand.deadline1 ∧
      (yieldChannel c s).demand.deadline2 = s.demand.deadline2 ∧
      (yieldChannel c s).demand.doorOpen = s.demand.doorOpen ∧
      (yieldChannel c s).demand.stopHold = s.demand.stopHold ∧
      (yieldChannel c s).demand.load = s.demand.load ∧
      (yieldChannel c s).demand.supply = s.demand.supply ∧
      (yieldChannel c s).scheduler.cycle = s.scheduler.cycle ∧
      (yieldChannel c s).management.queue = s.management.queue ∧
      (yieldChannel c s).management.responder = s.management.responder ∧
      (yieldChannel c s).port.u.rx = s.port.u.rx ∧
      (yieldChannel c s).port.d.rx = s.port.d.rx := by
  unfold yieldChannel; (repeat' split) <;> simp

@[simp] theorem yieldChannel_all_keeps (cs : List Chan) (s : State) :
    (forChans cs yieldChannel s).variant = s.variant ∧
      (forChans cs yieldChannel s).address = s.address ∧
      (forChans cs yieldChannel s).now = s.now ∧
      (forChans cs yieldChannel s).tables = s.tables ∧
      (forChans cs yieldChannel s).pending = s.pending ∧
      (forChans cs yieldChannel s).wheel = s.wheel ∧
      (forChans cs yieldChannel s).reference = s.reference ∧
      (forChans cs yieldChannel s).monitor = s.monitor ∧
      (forChans cs yieldChannel s).control = s.control ∧
      (forChans cs yieldChannel s).reporter = s.reporter ∧
      (forChans cs yieldChannel s).demand.demand = s.demand.demand ∧
      (forChans cs yieldChannel s).demand.lastSeq = s.demand.lastSeq ∧
      (forChans cs yieldChannel s).demand.stamp = s.demand.stamp ∧
      (forChans cs yieldChannel s).demand.stale = s.demand.stale ∧
      (forChans cs yieldChannel s).demand.lost = s.demand.lost ∧
      (forChans cs yieldChannel s).demand.deadline1 = s.demand.deadline1 ∧
      (forChans cs yieldChannel s).demand.deadline2 = s.demand.deadline2 ∧
      (forChans cs yieldChannel s).demand.doorOpen = s.demand.doorOpen ∧
      (forChans cs yieldChannel s).demand.stopHold = s.demand.stopHold ∧
      (forChans cs yieldChannel s).demand.load = s.demand.load ∧
      (forChans cs yieldChannel s).demand.supply = s.demand.supply ∧
      (forChans cs yieldChannel s).scheduler.cycle = s.scheduler.cycle ∧
      (forChans cs yieldChannel s).management.queue = s.management.queue ∧
      (forChans cs yieldChannel s).management.responder = s.management.responder ∧
      (forChans cs yieldChannel s).port.u.rx = s.port.u.rx ∧
      (forChans cs yieldChannel s).port.d.rx = s.port.d.rx := by
  induction cs generalizing s <;> simp_all [forChans_nil, forChans_cons]

@[simp] theorem channelAction_keeps (k : FaultKind) (c : Chan) (s : State) :
    (channelAction k c s).variant = s.variant ∧
      (channelAction k c s).address = s.address ∧
      (channelAction k c s).now = s.now ∧
      (channelAction k c s).tables = s.tables ∧
      (channelAction k c s).pending = s.pending ∧
      (channelAction k c s).wheel = s.wheel ∧
      (channelAction k c s).reference = s.reference ∧
      (channelAction k c s).monitor = s.monitor ∧
      (channelAction k c s).demand.demand = s.demand.demand ∧
      (channelAction k c s).demand.lastSeq = s.demand.lastSeq ∧
      (channelAction k c s).demand.stamp = s.demand.stamp ∧
      (channelAction k c s).demand.stale = s.demand.stale ∧
      (channelAction k c s).demand.lost = s.demand.lost ∧
      (channelAction k c s).demand.deadline1 = s.demand.deadline1 ∧
      (channelAction k c s).demand.deadline2 = s.demand.deadline2 ∧
      (channelAction k c s).demand.doorOpen = s.demand.doorOpen ∧
      (channelAction k c s).demand.stopHold = s.demand.stopHold ∧
      (channelAction k c s).demand.load = s.demand.load ∧
      (channelAction k c s).demand.supply = s.demand.supply ∧
      (channelAction k c s).scheduler.cycle = s.scheduler.cycle ∧
      (channelAction k c s).control.cause = s.control.cause ∧
      (channelAction k c s).control.written = s.control.written ∧
      (channelAction k c s).control.commit = s.control.commit ∧
      (channelAction k c s).reporter.timer = s.reporter.timer ∧
      (channelAction k c s).management.queue = s.management.queue ∧
      (channelAction k c s).management.responder = s.management.responder ∧
      (channelAction k c s).port.u.rx = s.port.u.rx ∧
      (channelAction k c s).port.d.rx = s.port.d.rx := by
  unfold channelAction; (repeat' split) <;> simp

@[simp] theorem yieldUnlessZeroing_keeps (c : Chan) (s : State) :
    (yieldUnlessZeroing c s).variant = s.variant ∧
      (yieldUnlessZeroing c s).address = s.address ∧
      (yieldUnlessZeroing c s).now = s.now ∧
      (yieldUnlessZeroing c s).tables = s.tables ∧
      (yieldUnlessZeroing c s).pending = s.pending ∧
      (yieldUnlessZeroing c s).wheel = s.wheel ∧
      (yieldUnlessZeroing c s).reference = s.reference ∧
      (yieldUnlessZeroing c s).monitor = s.monitor ∧
      (yieldUnlessZeroing c s).control = s.control ∧
      (yieldUnlessZeroing c s).reporter = s.reporter ∧
      (yieldUnlessZeroing c s).upstream = s.upstream ∧
      (yieldUnlessZeroing c s).management = s.management ∧
      (yieldUnlessZeroing c s).demand.demand = s.demand.demand ∧
      (yieldUnlessZeroing c s).demand.lastSeq = s.demand.lastSeq ∧
      (yieldUnlessZeroing c s).demand.stamp = s.demand.stamp ∧
      (yieldUnlessZeroing c s).demand.stale = s.demand.stale ∧
      (yieldUnlessZeroing c s).demand.lost = s.demand.lost ∧
      (yieldUnlessZeroing c s).demand.deadline1 = s.demand.deadline1 ∧
      (yieldUnlessZeroing c s).demand.deadline2 = s.demand.deadline2 ∧
      (yieldUnlessZeroing c s).demand.doorOpen = s.demand.doorOpen ∧
      (yieldUnlessZeroing c s).demand.stopHold = s.demand.stopHold ∧
      (yieldUnlessZeroing c s).demand.load = s.demand.load ∧
      (yieldUnlessZeroing c s).demand.supply = s.demand.supply ∧
      (yieldUnlessZeroing c s).scheduler.cycle = s.scheduler.cycle ∧
      (yieldUnlessZeroing c s).fifos.up = s.fifos.up ∧
      (yieldUnlessZeroing c s).port.u = s.port.u ∧
      (yieldUnlessZeroing c s).port.d.rx = s.port.d.rx := by
  unfold yieldUnlessZeroing; (repeat' split) <;> simp

@[simp] theorem yieldUnlessZeroing_all_keeps (cs : List Chan) (s : State) :
    (forChans cs yieldUnlessZeroing s).variant = s.variant ∧
      (forChans cs yieldUnlessZeroing s).address = s.address ∧
      (forChans cs yieldUnlessZeroing s).now = s.now ∧
      (forChans cs yieldUnlessZeroing s).tables = s.tables ∧
      (forChans cs yieldUnlessZeroing s).pending = s.pending ∧
      (forChans cs yieldUnlessZeroing s).wheel = s.wheel ∧
      (forChans cs yieldUnlessZeroing s).reference = s.reference ∧
      (forChans cs yieldUnlessZeroing s).monitor = s.monitor ∧
      (forChans cs yieldUnlessZeroing s).control = s.control ∧
      (forChans cs yieldUnlessZeroing s).reporter = s.reporter ∧
      (forChans cs yieldUnlessZeroing s).upstream = s.upstream ∧
      (forChans cs yieldUnlessZeroing s).management = s.management ∧
      (forChans cs yieldUnlessZeroing s).demand.demand = s.demand.demand ∧
      (forChans cs yieldUnlessZeroing s).demand.lastSeq = s.demand.lastSeq ∧
      (forChans cs yieldUnlessZeroing s).demand.stamp = s.demand.stamp ∧
      (forChans cs yieldUnlessZeroing s).demand.stale = s.demand.stale ∧
      (forChans cs yieldUnlessZeroing s).demand.lost = s.demand.lost ∧
      (forChans cs yieldUnlessZeroing s).demand.deadline1 = s.demand.deadline1 ∧
      (forChans cs yieldUnlessZeroing s).demand.deadline2 = s.demand.deadline2 ∧
      (forChans cs yieldUnlessZeroing s).demand.doorOpen = s.demand.doorOpen ∧
      (forChans cs yieldUnlessZeroing s).demand.stopHold = s.demand.stopHold ∧
      (forChans cs yieldUnlessZeroing s).demand.load = s.demand.load ∧
      (forChans cs yieldUnlessZeroing s).demand.supply = s.demand.supply ∧
      (forChans cs yieldUnlessZeroing s).scheduler.cycle = s.scheduler.cycle ∧
      (forChans cs yieldUnlessZeroing s).fifos.up = s.fifos.up ∧
      (forChans cs yieldUnlessZeroing s).port.u = s.port.u ∧
      (forChans cs yieldUnlessZeroing s).port.d.rx = s.port.d.rx := by
  induction cs generalizing s <;> simp_all [forChans_nil, forChans_cons]

@[simp] theorem partAction_keeps (k : FaultKind) (s : State) :
    (partAction k s).variant = s.variant ∧
      (partAction k s).address = s.address ∧
      (partAction k s).now = s.now ∧
      (partAction k s).tables = s.tables ∧
      (partAction k s).pending = s.pending ∧
      (partAction k s).wheel = s.wheel ∧
      (partAction k s).reference = s.reference ∧
      (partAction k s).monitor = s.monitor ∧
      (partAction k s).demand.demand = s.demand.demand ∧
      (partAction k s).demand.lastSeq = s.demand.lastSeq ∧
      (partAction k s).demand.stamp = s.demand.stamp ∧
      (partAction k s).demand.stale = s.demand.stale ∧
      (partAction k s).demand.lost = s.demand.lost ∧
      (partAction k s).demand.deadline1 = s.demand.deadline1 ∧
      (partAction k s).demand.deadline2 = s.demand.deadline2 ∧
      (partAction k s).demand.doorOpen = s.demand.doorOpen ∧
      (partAction k s).demand.stopHold = s.demand.stopHold ∧
      (partAction k s).demand.load = s.demand.load ∧
      (partAction k s).demand.supply = s.demand.supply ∧
      (partAction k s).scheduler.cycle = s.scheduler.cycle ∧
      (partAction k s).control.written = s.control.written ∧
      (partAction k s).control.commit = s.control.commit ∧
      (partAction k s).control.heldOut = s.control.heldOut ∧
      (partAction k s).reporter.timer = s.reporter.timer ∧
      (partAction k s).management.queue = s.management.queue ∧
      (partAction k s).management.responder = s.management.responder ∧
      (partAction k s).port.u.rx = s.port.u.rx ∧
      (partAction k s).port.d.rx = s.port.d.rx := by
  unfold partAction; (repeat' split) <;> simp

@[simp] theorem rearmQuiet_keeps (r : FaultReport) (s : State) :
    (rearmQuiet r s).variant = s.variant ∧
      (rearmQuiet r s).address = s.address ∧
      (rearmQuiet r s).now = s.now ∧
      (rearmQuiet r s).tables = s.tables ∧
      (rearmQuiet r s).pending = s.pending ∧
      (rearmQuiet r s).wheel = s.wheel ∧
      (rearmQuiet r s).reference = s.reference ∧
      (rearmQuiet r s).demand = s.demand ∧
      (rearmQuiet r s).chan = s.chan ∧
      (rearmQuiet r s).scheduler = s.scheduler ∧
      (rearmQuiet r s).control = s.control ∧
      (rearmQuiet r s).reporter = s.reporter ∧
      (rearmQuiet r s).downstream = s.downstream ∧
      (rearmQuiet r s).upstream = s.upstream ∧
      (rearmQuiet r s).fifos = s.fifos ∧
      (rearmQuiet r s).management = s.management ∧
      (rearmQuiet r s).port = s.port ∧
      (rearmQuiet r s).monitor.list = s.monitor.list ∧
      (rearmQuiet r s).monitor.first = s.monitor.first ∧
      (rearmQuiet r s).monitor.overflow = s.monitor.overflow ∧
      (rearmQuiet r s).monitor.node = s.monitor.node := by
  unfold rearmQuiet; (repeat' split) <;> simp

@[simp] theorem classAction_keeps (x : FaultClass) (r : FaultReport) (s : State) :
    (classAction x r s).variant = s.variant ∧
      (classAction x r s).address = s.address ∧
      (classAction x r s).now = s.now ∧
      (classAction x r s).tables = s.tables ∧
      (classAction x r s).pending = s.pending ∧
      (classAction x r s).wheel = s.wheel ∧
      (classAction x r s).reference = s.reference ∧
      (classAction x r s).monitor = s.monitor ∧
      (classAction x r s).demand.demand = s.demand.demand ∧
      (classAction x r s).demand.lastSeq = s.demand.lastSeq ∧
      (classAction x r s).demand.stamp = s.demand.stamp ∧
      (classAction x r s).demand.stale = s.demand.stale ∧
      (classAction x r s).demand.lost = s.demand.lost ∧
      (classAction x r s).demand.deadline1 = s.demand.deadline1 ∧
      (classAction x r s).demand.deadline2 = s.demand.deadline2 ∧
      (classAction x r s).demand.doorOpen = s.demand.doorOpen ∧
      (classAction x r s).demand.stopHold = s.demand.stopHold ∧
      (classAction x r s).demand.load = s.demand.load ∧
      (classAction x r s).demand.supply = s.demand.supply ∧
      (classAction x r s).scheduler.cycle = s.scheduler.cycle ∧
      (classAction x r s).control.written = s.control.written ∧
      (classAction x r s).control.commit = s.control.commit ∧
      (classAction x r s).reporter.timer = s.reporter.timer ∧
      (classAction x r s).management.queue = s.management.queue ∧
      (classAction x r s).management.responder = s.management.responder ∧
      (classAction x r s).port.u.rx = s.port.u.rx ∧
      (classAction x r s).port.d.rx = s.port.d.rx := by
  unfold classAction; (repeat' split) <;> simp

@[simp] theorem report_keeps (r : FaultReport) (s : State) :
    (report r s).variant = s.variant ∧
      (report r s).address = s.address ∧
      (report r s).now = s.now ∧
      (report r s).tables = s.tables ∧
      (report r s).pending = s.pending ∧
      (report r s).wheel = s.wheel ∧
      (report r s).reference = s.reference ∧
      (report r s).demand.demand = s.demand.demand ∧
      (report r s).demand.lastSeq = s.demand.lastSeq ∧
      (report r s).demand.stamp = s.demand.stamp ∧
      (report r s).demand.stale = s.demand.stale ∧
      (report r s).demand.lost = s.demand.lost ∧
      (report r s).demand.deadline1 = s.demand.deadline1 ∧
      (report r s).demand.deadline2 = s.demand.deadline2 ∧
      (report r s).demand.doorOpen = s.demand.doorOpen ∧
      (report r s).demand.stopHold = s.demand.stopHold ∧
      (report r s).demand.load = s.demand.load ∧
      (report r s).demand.supply = s.demand.supply ∧
      (report r s).scheduler.cycle = s.scheduler.cycle ∧
      (report r s).control.written = s.control.written ∧
      (report r s).control.commit = s.control.commit ∧
      (report r s).reporter.timer = s.reporter.timer ∧
      (report r s).management.queue = s.management.queue ∧
      (report r s).management.responder = s.management.responder ∧
      (report r s).port.u.rx = s.port.u.rx ∧
      (report r s).port.d.rx = s.port.d.rx := by
  unfold report; (try dsimp only); (repeat' split) <;> simp

@[simp] theorem endCondition_keeps (k : FaultKind) (l : Locus) (s : State) :
    (endCondition k l s).variant = s.variant ∧
      (endCondition k l s).address = s.address ∧
      (endCondition k l s).now = s.now ∧
      (endCondition k l s).tables = s.tables ∧
      (endCondition k l s).pending = s.pending ∧
      (endCondition k l s).wheel = s.wheel ∧
      (endCondition k l s).reference = s.reference ∧
      (endCondition k l s).demand = s.demand ∧
      (endCondition k l s).chan = s.chan ∧
      (endCondition k l s).scheduler = s.scheduler ∧
      (endCondition k l s).control = s.control ∧
      (endCondition k l s).reporter = s.reporter ∧
      (endCondition k l s).downstream = s.downstream ∧
      (endCondition k l s).upstream = s.upstream ∧
      (endCondition k l s).fifos = s.fifos ∧
      (endCondition k l s).management = s.management ∧
      (endCondition k l s).port = s.port ∧
      (endCondition k l s).monitor.first = s.monitor.first ∧
      (endCondition k l s).monitor.overflow = s.monitor.overflow ∧
      (endCondition k l s).monitor.quiet = s.monitor.quiet ∧
      (endCondition k l s).monitor.node = s.monitor.node := by
  simp [endCondition]

@[simp] theorem endWheelLost_keeps (c : Chan) (s : State) :
    (endWheelLost c s).variant = s.variant ∧
      (endWheelLost c s).address = s.address ∧
      (endWheelLost c s).now = s.now ∧
      (endWheelLost c s).tables = s.tables ∧
      (endWheelLost c s).pending = s.pending ∧
      (endWheelLost c s).reference = s.reference ∧
      (endWheelLost c s).demand = s.demand ∧
      (endWheelLost c s).chan = s.chan ∧
      (endWheelLost c s).scheduler = s.scheduler ∧
      (endWheelLost c s).control = s.control ∧
      (endWheelLost c s).reporter = s.reporter ∧
      (endWheelLost c s).downstream = s.downstream ∧
      (endWheelLost c s).upstream = s.upstream ∧
      (endWheelLost c s).fifos = s.fifos ∧
      (endWheelLost c s).management = s.management ∧
      (endWheelLost c s).port = s.port ∧
      (endWheelLost c s).monitor.first = s.monitor.first ∧
      (endWheelLost c s).monitor.overflow = s.monitor.overflow ∧
      (endWheelLost c s).monitor.quiet = s.monitor.quiet ∧
      (endWheelLost c s).monitor.node = s.monitor.node := by
  unfold endWheelLost; (repeat' split) <;> simp

@[simp] theorem endPressureLost_keeps (c : Chan) (s : State) :
    (endPressureLost c s).variant = s.variant ∧
      (endPressureLost c s).address = s.address ∧
      (endPressureLost c s).now = s.now ∧
      (endPressureLost c s).tables = s.tables ∧
      (endPressureLost c s).pending = s.pending ∧
      (endPressureLost c s).wheel = s.wheel ∧
      (endPressureLost c s).reference = s.reference ∧
      (endPressureLost c s).demand = s.demand ∧
      (endPressureLost c s).scheduler = s.scheduler ∧
      (endPressureLost c s).control = s.control ∧
      (endPressureLost c s).reporter = s.reporter ∧
      (endPressureLost c s).downstream = s.downstream ∧
      (endPressureLost c s).upstream = s.upstream ∧
      (endPressureLost c s).fifos = s.fifos ∧
      (endPressureLost c s).management = s.management ∧
      (endPressureLost c s).port = s.port ∧
      (endPressureLost c s).monitor.first = s.monitor.first ∧
      (endPressureLost c s).monitor.overflow = s.monitor.overflow ∧
      (endPressureLost c s).monitor.quiet = s.monitor.quiet ∧
      (endPressureLost c s).monitor.node = s.monitor.node := by
  unfold endPressureLost; (repeat' split) <;> simp

@[simp] theorem stopCycles_keeps (s : State) :
    (stopCycles s).variant = s.variant ∧
      (stopCycles s).address = s.address ∧
      (stopCycles s).now = s.now ∧
      (stopCycles s).tables = s.tables ∧
      (stopCycles s).pending = s.pending ∧
      (stopCycles s).wheel = s.wheel ∧
      (stopCycles s).reference = s.reference ∧
      (stopCycles s).demand = s.demand ∧
      (stopCycles s).chan = s.chan ∧
      (stopCycles s).monitor = s.monitor ∧
      (stopCycles s).control = s.control ∧
      (stopCycles s).reporter = s.reporter ∧
      (stopCycles s).downstream = s.downstream ∧
      (stopCycles s).upstream = s.upstream ∧
      (stopCycles s).fifos = s.fifos ∧
      (stopCycles s).management = s.management ∧
      (stopCycles s).port = s.port ∧
      (stopCycles s).scheduler.slots = s.scheduler.slots := by
  unfold stopCycles; simp

@[simp] theorem closeDemand_keeps (s : State) :
    (closeDemand s).variant = s.variant ∧
      (closeDemand s).address = s.address ∧
      (closeDemand s).now = s.now ∧
      (closeDemand s).tables = s.tables ∧
      (closeDemand s).pending = s.pending ∧
      (closeDemand s).wheel = s.wheel ∧
      (closeDemand s).reference = s.reference ∧
      (closeDemand s).chan = s.chan ∧
      (closeDemand s).scheduler = s.scheduler ∧
      (closeDemand s).monitor = s.monitor ∧
      (closeDemand s).control = s.control ∧
      (closeDemand s).reporter = s.reporter ∧
      (closeDemand s).downstream = s.downstream ∧
      (closeDemand s).upstream = s.upstream ∧
      (closeDemand s).fifos = s.fifos ∧
      (closeDemand s).management = s.management ∧
      (closeDemand s).port = s.port ∧
      (closeDemand s).demand.demand = s.demand.demand ∧
      (closeDemand s).demand.lastSeq = s.demand.lastSeq ∧
      (closeDemand s).demand.stamp = s.demand.stamp ∧
      (closeDemand s).demand.stale = s.demand.stale ∧
      (closeDemand s).demand.lost = s.demand.lost ∧
      (closeDemand s).demand.doorOpen = s.demand.doorOpen ∧
      (closeDemand s).demand.stopHold = s.demand.stopHold ∧
      (closeDemand s).demand.load = s.demand.load := by
  unfold closeDemand; simp

@[simp] theorem holdReport_all_keeps (cs : List Chan) (s : State) :
    (forChans cs holdReport s).variant = s.variant ∧
      (forChans cs holdReport s).address = s.address ∧
      (forChans cs holdReport s).now = s.now ∧
      (forChans cs holdReport s).tables = s.tables ∧
      (forChans cs holdReport s).pending = s.pending ∧
      (forChans cs holdReport s).wheel = s.wheel ∧
      (forChans cs holdReport s).reference = s.reference ∧
      (forChans cs holdReport s).demand = s.demand ∧
      (forChans cs holdReport s).chan = s.chan ∧
      (forChans cs holdReport s).scheduler = s.scheduler ∧
      (forChans cs holdReport s).monitor = s.monitor ∧
      (forChans cs holdReport s).downstream = s.downstream ∧
      (forChans cs holdReport s).control.cause = s.control.cause ∧
      (forChans cs holdReport s).control.written = s.control.written ∧
      (forChans cs holdReport s).control.commit = s.control.commit ∧
      (forChans cs holdReport s).reporter.timer = s.reporter.timer ∧
      (forChans cs holdReport s).fifos.down = s.fifos.down ∧
      (forChans cs holdReport s).management.queue = s.management.queue ∧
      (forChans cs holdReport s).management.responder = s.management.responder ∧
      (forChans cs holdReport s).port.d = s.port.d ∧
      (forChans cs holdReport s).port.u.rx = s.port.u.rx := by
  induction cs generalizing s <;> simp_all [forChans_nil, forChans_cons]

@[simp] theorem closeRecords_all_keeps (cs : List Chan) (s : State) :
    (forChans cs (fun c s => (s.modifyChan c channelClosed).modifyWheel c speedClosed) s).variant = s.variant ∧
      (forChans cs (fun c s => (s.modifyChan c channelClosed).modifyWheel c speedClosed) s).address = s.address ∧
      (forChans cs (fun c s => (s.modifyChan c channelClosed).modifyWheel c speedClosed) s).now = s.now ∧
      (forChans cs (fun c s => (s.modifyChan c channelClosed).modifyWheel c speedClosed) s).tables = s.tables ∧
      (forChans cs (fun c s => (s.modifyChan c channelClosed).modifyWheel c speedClosed) s).pending = s.pending ∧
      (forChans cs (fun c s => (s.modifyChan c channelClosed).modifyWheel c speedClosed) s).reference = s.reference ∧
      (forChans cs (fun c s => (s.modifyChan c channelClosed).modifyWheel c speedClosed) s).demand = s.demand ∧
      (forChans cs (fun c s => (s.modifyChan c channelClosed).modifyWheel c speedClosed) s).scheduler = s.scheduler ∧
      (forChans cs (fun c s => (s.modifyChan c channelClosed).modifyWheel c speedClosed) s).monitor = s.monitor ∧
      (forChans cs (fun c s => (s.modifyChan c channelClosed).modifyWheel c speedClosed) s).control = s.control ∧
      (forChans cs (fun c s => (s.modifyChan c channelClosed).modifyWheel c speedClosed) s).reporter = s.reporter ∧
      (forChans cs (fun c s => (s.modifyChan c channelClosed).modifyWheel c speedClosed) s).downstream = s.downstream ∧
      (forChans cs (fun c s => (s.modifyChan c channelClosed).modifyWheel c speedClosed) s).upstream = s.upstream ∧
      (forChans cs (fun c s => (s.modifyChan c channelClosed).modifyWheel c speedClosed) s).fifos = s.fifos ∧
      (forChans cs (fun c s => (s.modifyChan c channelClosed).modifyWheel c speedClosed) s).management = s.management ∧
      (forChans cs (fun c s => (s.modifyChan c channelClosed).modifyWheel c speedClosed) s).port = s.port := by
  induction cs generalizing s <;> simp_all [forChans_nil, forChans_cons]

@[simp] theorem verifyRecords_all_keeps (cs : List Chan) (s : State) :
    (forChans cs (fun c s => (s.modifyChan c channelVerified).modifyWheel c speedVerified) s).variant = s.variant ∧
      (forChans cs (fun c s => (s.modifyChan c channelVerified).modifyWheel c speedVerified) s).address = s.address ∧
      (forChans cs (fun c s => (s.modifyChan c channelVerified).modifyWheel c speedVerified) s).now = s.now ∧
      (forChans cs (fun c s => (s.modifyChan c channelVerified).modifyWheel c speedVerified) s).tables = s.tables ∧
      (forChans cs (fun c s => (s.modifyChan c channelVerified).modifyWheel c speedVerified) s).pending = s.pending ∧
      (forChans cs (fun c s => (s.modifyChan c channelVerified).modifyWheel c speedVerified) s).reference = s.reference ∧
      (forChans cs (fun c s => (s.modifyChan c channelVerified).modifyWheel c speedVerified) s).demand = s.demand ∧
      (forChans cs (fun c s => (s.modifyChan c channelVerified).modifyWheel c speedVerified) s).scheduler = s.scheduler ∧
      (forChans cs (fun c s => (s.modifyChan c channelVerified).modifyWheel c speedVerified) s).monitor = s.monitor ∧
      (forChans cs (fun c s => (s.modifyChan c channelVerified).modifyWheel c speedVerified) s).control = s.control ∧
      (forChans cs (fun c s => (s.modifyChan c channelVerified).modifyWheel c speedVerified) s).reporter = s.reporter ∧
      (forChans cs (fun c s => (s.modifyChan c channelVerified).modifyWheel c speedVerified) s).downstream = s.downstream ∧
      (forChans cs (fun c s => (s.modifyChan c channelVerified).modifyWheel c speedVerified) s).upstream = s.upstream ∧
      (forChans cs (fun c s => (s.modifyChan c channelVerified).modifyWheel c speedVerified) s).fifos = s.fifos ∧
      (forChans cs (fun c s => (s.modifyChan c channelVerified).modifyWheel c speedVerified) s).management = s.management ∧
      (forChans cs (fun c s => (s.modifyChan c channelVerified).modifyWheel c speedVerified) s).port = s.port := by
  induction cs generalizing s <;> simp_all [forChans_nil, forChans_cons]

@[simp] theorem enterLoading_keeps (s : State) :
    (enterLoading s).variant = s.variant ∧
      (enterLoading s).address = s.address ∧
      (enterLoading s).now = s.now ∧
      (enterLoading s).tables = s.tables ∧
      (enterLoading s).pending = s.pending ∧
      (enterLoading s).reference = s.reference ∧
      (enterLoading s).monitor = s.monitor ∧
      (enterLoading s).demand.demand = s.demand.demand ∧
      (enterLoading s).demand.lastSeq = s.demand.lastSeq ∧
      (enterLoading s).demand.stamp = s.demand.stamp ∧
      (enterLoading s).demand.stale = s.demand.stale ∧
      (enterLoading s).demand.lost = s.demand.lost ∧
      (enterLoading s).demand.doorOpen = s.demand.doorOpen ∧
      (enterLoading s).demand.stopHold = s.demand.stopHold ∧
      (enterLoading s).demand.load = s.demand.load ∧
      (enterLoading s).control.cause = s.control.cause ∧
      (enterLoading s).control.written = s.control.written ∧
      (enterLoading s).control.commit = s.control.commit ∧
      (enterLoading s).reporter.timer = s.reporter.timer ∧
      (enterLoading s).management.queue = s.management.queue ∧
      (enterLoading s).management.responder = s.management.responder ∧
      (enterLoading s).port.u.rx = s.port.u.rx ∧
      (enterLoading s).port.d.rx = s.port.d.rx := by
  unfold enterLoading; simp

@[simp] theorem enterVerify_keeps (k : CommitInFlight) (s : State) :
    (enterVerify k s).variant = s.variant ∧
      (enterVerify k s).address = s.address ∧
      (enterVerify k s).now = s.now ∧
      (enterVerify k s).tables = s.tables ∧
      (enterVerify k s).pending = s.pending ∧
      (enterVerify k s).monitor = s.monitor ∧
      (enterVerify k s).demand.demand = s.demand.demand ∧
      (enterVerify k s).demand.lastSeq = s.demand.lastSeq ∧
      (enterVerify k s).demand.stamp = s.demand.stamp ∧
      (enterVerify k s).demand.stale = s.demand.stale ∧
      (enterVerify k s).demand.lost = s.demand.lost ∧
      (enterVerify k s).demand.doorOpen = s.demand.doorOpen ∧
      (enterVerify k s).demand.stopHold = s.demand.stopHold ∧
      (enterVerify k s).demand.load = s.demand.load ∧
      (enterVerify k s).control.cause = s.control.cause ∧
      (enterVerify k s).control.written = s.control.written ∧
      (enterVerify k s).reporter.timer = s.reporter.timer ∧
      (enterVerify k s).management.queue = s.management.queue ∧
      (enterVerify k s).management.responder = s.management.responder ∧
      (enterVerify k s).port.u.rx = s.port.u.rx ∧
      (enterVerify k s).port.d.rx = s.port.d.rx := by
  unfold enterVerify; (repeat' split) <;> simp

@[simp] theorem takeDecision_keeps (c : Chan) (d : Decision) (s : State) :
    (takeDecision c d s).variant = s.variant ∧
      (takeDecision c d s).address = s.address ∧
      (takeDecision c d s).now = s.now ∧
      (takeDecision c d s).tables = s.tables ∧
      (takeDecision c d s).pending = s.pending ∧
      (takeDecision c d s).wheel = s.wheel ∧
      (takeDecision c d s).reference = s.reference ∧
      (takeDecision c d s).monitor = s.monitor ∧
      (takeDecision c d s).control = s.control ∧
      (takeDecision c d s).reporter = s.reporter ∧
      (takeDecision c d s).upstream = s.upstream ∧
      (takeDecision c d s).management = s.management ∧
      (takeDecision c d s).demand.demand = s.demand.demand ∧
      (takeDecision c d s).demand.lastSeq = s.demand.lastSeq ∧
      (takeDecision c d s).demand.stamp = s.demand.stamp ∧
      (takeDecision c d s).demand.stale = s.demand.stale ∧
      (takeDecision c d s).demand.lost = s.demand.lost ∧
      (takeDecision c d s).demand.deadline1 = s.demand.deadline1 ∧
      (takeDecision c d s).demand.deadline2 = s.demand.deadline2 ∧
      (takeDecision c d s).demand.doorOpen = s.demand.doorOpen ∧
      (takeDecision c d s).demand.stopHold = s.demand.stopHold ∧
      (takeDecision c d s).demand.load = s.demand.load ∧
      (takeDecision c d s).demand.supply = s.demand.supply ∧
      (takeDecision c d s).scheduler.cycle = s.scheduler.cycle ∧
      (takeDecision c d s).fifos.up = s.fifos.up ∧
      (takeDecision c d s).port.u = s.port.u ∧
      (takeDecision c d s).port.d.rx = s.port.d.rx := by
  unfold takeDecision; (repeat' split) <;> simp

@[simp] theorem speedUpdate_keeps (c : Chan) (t : Time) (s : State) :
    (speedUpdate c t s).variant = s.variant ∧
      (speedUpdate c t s).address = s.address ∧
      (speedUpdate c t s).now = s.now ∧
      (speedUpdate c t s).tables = s.tables ∧
      (speedUpdate c t s).pending = s.pending ∧
      (speedUpdate c t s).wheel = s.wheel ∧
      (speedUpdate c t s).monitor = s.monitor ∧
      (speedUpdate c t s).demand.demand = s.demand.demand ∧
      (speedUpdate c t s).demand.lastSeq = s.demand.lastSeq ∧
      (speedUpdate c t s).demand.stamp = s.demand.stamp ∧
      (speedUpdate c t s).demand.stale = s.demand.stale ∧
      (speedUpdate c t s).demand.lost = s.demand.lost ∧
      (speedUpdate c t s).demand.deadline1 = s.demand.deadline1 ∧
      (speedUpdate c t s).demand.deadline2 = s.demand.deadline2 ∧
      (speedUpdate c t s).demand.doorOpen = s.demand.doorOpen ∧
      (speedUpdate c t s).demand.stopHold = s.demand.stopHold ∧
      (speedUpdate c t s).demand.load = s.demand.load ∧
      (speedUpdate c t s).demand.supply = s.demand.supply ∧
      (speedUpdate c t s).scheduler.cycle = s.scheduler.cycle ∧
      (speedUpdate c t s).control.cause = s.control.cause ∧
      (speedUpdate c t s).control.written = s.control.written ∧
      (speedUpdate c t s).control.commit = s.control.commit ∧
      (speedUpdate c t s).reporter.timer = s.reporter.timer ∧
      (speedUpdate c t s).management.queue = s.management.queue ∧
      (speedUpdate c t s).management.responder = s.management.responder ∧
      (speedUpdate c t s).port.u.rx = s.port.u.rx ∧
      (speedUpdate c t s).port.d.rx = s.port.d.rx := by
  unfold speedUpdate; (try dsimp only); (repeat' split) <;> simp

@[simp] theorem resync_keeps (c : Chan) (t : Time) (b : Base) (s : State) :
    (resync c t b s).variant = s.variant ∧
      (resync c t b s).address = s.address ∧
      (resync c t b s).now = s.now ∧
      (resync c t b s).tables = s.tables ∧
      (resync c t b s).pending = s.pending ∧
      (resync c t b s).reference = s.reference ∧
      (resync c t b s).demand = s.demand ∧
      (resync c t b s).chan = s.chan ∧
      (resync c t b s).scheduler = s.scheduler ∧
      (resync c t b s).control = s.control ∧
      (resync c t b s).reporter = s.reporter ∧
      (resync c t b s).downstream = s.downstream ∧
      (resync c t b s).upstream = s.upstream ∧
      (resync c t b s).fifos = s.fifos ∧
      (resync c t b s).management = s.management ∧
      (resync c t b s).port = s.port ∧
      (resync c t b s).monitor.first = s.monitor.first ∧
      (resync c t b s).monitor.overflow = s.monitor.overflow ∧
      (resync c t b s).monitor.quiet = s.monitor.quiet ∧
      (resync c t b s).monitor.node = s.monitor.node := by
  unfold resync; simp

@[simp] theorem completeSample_keeps (c : Chan) (t : Time) (s : State) :
    (completeSample c t s).variant = s.variant ∧
      (completeSample c t s).address = s.address ∧
      (completeSample c t s).now = s.now ∧
      (completeSample c t s).tables = s.tables ∧
      (completeSample c t s).pending = s.pending ∧
      (completeSample c t s).demand.demand = s.demand.demand ∧
      (completeSample c t s).demand.lastSeq = s.demand.lastSeq ∧
      (completeSample c t s).demand.stamp = s.demand.stamp ∧
      (completeSample c t s).demand.stale = s.demand.stale ∧
      (completeSample c t s).demand.lost = s.demand.lost ∧
      (completeSample c t s).demand.deadline1 = s.demand.deadline1 ∧
      (completeSample c t s).demand.deadline2 = s.demand.deadline2 ∧
      (completeSample c t s).demand.doorOpen = s.demand.doorOpen ∧
      (completeSample c t s).demand.stopHold = s.demand.stopHold ∧
      (completeSample c t s).demand.load = s.demand.load ∧
      (completeSample c t s).demand.supply = s.demand.supply ∧
      (completeSample c t s).scheduler.cycle = s.scheduler.cycle ∧
      (completeSample c t s).monitor.first = s.monitor.first ∧
      (completeSample c t s).monitor.overflow = s.monitor.overflow ∧
      (completeSample c t s).monitor.quiet = s.monitor.quiet ∧
      (completeSample c t s).monitor.node = s.monitor.node ∧
      (completeSample c t s).control.cause = s.control.cause ∧
      (completeSample c t s).control.written = s.control.written ∧
      (completeSample c t s).control.commit = s.control.commit ∧
      (completeSample c t s).reporter.timer = s.reporter.timer ∧
      (completeSample c t s).management.queue = s.management.queue ∧
      (completeSample c t s).management.responder = s.management.responder ∧
      (completeSample c t s).port.u.rx = s.port.u.rx ∧
      (completeSample c t s).port.d.rx = s.port.d.rx := by
  unfold completeSample; simp

@[simp] theorem sampleInService_keeps (c : Chan) (p : WheelPayload) (t : Time) (h : Header) (s : State) :
    (sampleInService c p t h s).variant = s.variant ∧
      (sampleInService c p t h s).address = s.address ∧
      (sampleInService c p t h s).now = s.now ∧
      (sampleInService c p t h s).tables = s.tables ∧
      (sampleInService c p t h s).pending = s.pending ∧
      (sampleInService c p t h s).demand.demand = s.demand.demand ∧
      (sampleInService c p t h s).demand.lastSeq = s.demand.lastSeq ∧
      (sampleInService c p t h s).demand.stamp = s.demand.stamp ∧
      (sampleInService c p t h s).demand.stale = s.demand.stale ∧
      (sampleInService c p t h s).demand.lost = s.demand.lost ∧
      (sampleInService c p t h s).demand.deadline1 = s.demand.deadline1 ∧
      (sampleInService c p t h s).demand.deadline2 = s.demand.deadline2 ∧
      (sampleInService c p t h s).demand.doorOpen = s.demand.doorOpen ∧
      (sampleInService c p t h s).demand.stopHold = s.demand.stopHold ∧
      (sampleInService c p t h s).demand.load = s.demand.load ∧
      (sampleInService c p t h s).demand.supply = s.demand.supply ∧
      (sampleInService c p t h s).scheduler.cycle = s.scheduler.cycle ∧
      (sampleInService c p t h s).control.written = s.control.written ∧
      (sampleInService c p t h s).control.commit = s.control.commit ∧
      (sampleInService c p t h s).reporter.timer = s.reporter.timer ∧
      (sampleInService c p t h s).management.queue = s.management.queue ∧
      (sampleInService c p t h s).management.responder = s.management.responder ∧
      (sampleInService c p t h s).port.u.rx = s.port.u.rx ∧
      (sampleInService c p t h s).port.d.rx = s.port.d.rx := by
  unfold sampleInService; (try dsimp only); (repeat' split) <;> simp

@[simp] theorem wheelSample_keeps (c : Chan) (p : WheelPayload) (t : Time) (h : Header) (s : State) :
    (wheelSample c p t h s).variant = s.variant ∧
      (wheelSample c p t h s).address = s.address ∧
      (wheelSample c p t h s).now = s.now ∧
      (wheelSample c p t h s).tables = s.tables ∧
      (wheelSample c p t h s).pending = s.pending ∧
      (wheelSample c p t h s).demand.demand = s.demand.demand ∧
      (wheelSample c p t h s).demand.lastSeq = s.demand.lastSeq ∧
      (wheelSample c p t h s).demand.stamp = s.demand.stamp ∧
      (wheelSample c p t h s).demand.stale = s.demand.stale ∧
      (wheelSample c p t h s).demand.lost = s.demand.lost ∧
      (wheelSample c p t h s).demand.deadline1 = s.demand.deadline1 ∧
      (wheelSample c p t h s).demand.deadline2 = s.demand.deadline2 ∧
      (wheelSample c p t h s).demand.doorOpen = s.demand.doorOpen ∧
      (wheelSample c p t h s).demand.stopHold = s.demand.stopHold ∧
      (wheelSample c p t h s).demand.load = s.demand.load ∧
      (wheelSample c p t h s).demand.supply = s.demand.supply ∧
      (wheelSample c p t h s).scheduler.cycle = s.scheduler.cycle ∧
      (wheelSample c p t h s).control.written = s.control.written ∧
      (wheelSample c p t h s).control.commit = s.control.commit ∧
      (wheelSample c p t h s).reporter.timer = s.reporter.timer ∧
      (wheelSample c p t h s).management.queue = s.management.queue ∧
      (wheelSample c p t h s).management.responder = s.management.responder ∧
      (wheelSample c p t h s).port.u.rx = s.port.u.rx ∧
      (wheelSample c p t h s).port.d.rx = s.port.d.rx := by
  unfold wheelSample; (repeat' split) <;> simp

@[simp] theorem endDemandLost_keeps (s : State) :
    (endDemandLost s).variant = s.variant ∧
      (endDemandLost s).address = s.address ∧
      (endDemandLost s).now = s.now ∧
      (endDemandLost s).tables = s.tables ∧
      (endDemandLost s).pending = s.pending ∧
      (endDemandLost s).wheel = s.wheel ∧
      (endDemandLost s).reference = s.reference ∧
      (endDemandLost s).chan = s.chan ∧
      (endDemandLost s).scheduler = s.scheduler ∧
      (endDemandLost s).control = s.control ∧
      (endDemandLost s).reporter = s.reporter ∧
      (endDemandLost s).downstream = s.downstream ∧
      (endDemandLost s).upstream = s.upstream ∧
      (endDemandLost s).fifos = s.fifos ∧
      (endDemandLost s).management = s.management ∧
      (endDemandLost s).port = s.port ∧
      (endDemandLost s).demand.demand = s.demand.demand ∧
      (endDemandLost s).demand.lastSeq = s.demand.lastSeq ∧
      (endDemandLost s).demand.stamp = s.demand.stamp ∧
      (endDemandLost s).demand.stale = s.demand.stale ∧
      (endDemandLost s).demand.deadline1 = s.demand.deadline1 ∧
      (endDemandLost s).demand.deadline2 = s.demand.deadline2 ∧
      (endDemandLost s).demand.doorOpen = s.demand.doorOpen ∧
      (endDemandLost s).demand.stopHold = s.demand.stopHold ∧
      (endDemandLost s).demand.load = s.demand.load ∧
      (endDemandLost s).demand.supply = s.demand.supply ∧
      (endDemandLost s).demand.target = s.demand.target ∧
      (endDemandLost s).monitor.first = s.monitor.first ∧
      (endDemandLost s).monitor.overflow = s.monitor.overflow ∧
      (endDemandLost s).monitor.quiet = s.monitor.quiet ∧
      (endDemandLost s).monitor.node = s.monitor.node := by
  unfold endDemandLost; (repeat' split) <;> simp

@[simp] theorem storeDemand_keeps (p : DemandPayload) (t : Time) (h : Header) (s : State) :
    (storeDemand p t h s).variant = s.variant ∧
      (storeDemand p t h s).address = s.address ∧
      (storeDemand p t h s).now = s.now ∧
      (storeDemand p t h s).tables = s.tables ∧
      (storeDemand p t h s).pending = s.pending ∧
      (storeDemand p t h s).wheel = s.wheel ∧
      (storeDemand p t h s).reference = s.reference ∧
      (storeDemand p t h s).demand.lastSeq = s.demand.lastSeq ∧
      (storeDemand p t h s).demand.stamp = s.demand.stamp ∧
      (storeDemand p t h s).demand.stale = s.demand.stale ∧
      (storeDemand p t h s).demand.lost = s.demand.lost ∧
      (storeDemand p t h s).demand.deadline1 = s.demand.deadline1 ∧
      (storeDemand p t h s).demand.deadline2 = s.demand.deadline2 ∧
      (storeDemand p t h s).demand.doorOpen = s.demand.doorOpen ∧
      (storeDemand p t h s).demand.stopHold = s.demand.stopHold ∧
      (storeDemand p t h s).demand.load = s.demand.load ∧
      (storeDemand p t h s).demand.supply = s.demand.supply ∧
      (storeDemand p t h s).scheduler.cycle = s.scheduler.cycle ∧
      (storeDemand p t h s).control.written = s.control.written ∧
      (storeDemand p t h s).control.commit = s.control.commit ∧
      (storeDemand p t h s).reporter.timer = s.reporter.timer ∧
      (storeDemand p t h s).management.queue = s.management.queue ∧
      (storeDemand p t h s).management.responder = s.management.responder ∧
      (storeDemand p t h s).port.u.rx = s.port.u.rx ∧
      (storeDemand p t h s).port.d.rx = s.port.d.rx := by
  unfold storeDemand; (try dsimp only); (repeat' split) <;> simp

@[simp] theorem refreshDemand_keeps (t : Time) (h : Header) (s : State) :
    (refreshDemand t h s).variant = s.variant ∧
      (refreshDemand t h s).address = s.address ∧
      (refreshDemand t h s).now = s.now ∧
      (refreshDemand t h s).tables = s.tables ∧
      (refreshDemand t h s).pending = s.pending ∧
      (refreshDemand t h s).wheel = s.wheel ∧
      (refreshDemand t h s).reference = s.reference ∧
      (refreshDemand t h s).chan = s.chan ∧
      (refreshDemand t h s).scheduler = s.scheduler ∧
      (refreshDemand t h s).control = s.control ∧
      (refreshDemand t h s).reporter = s.reporter ∧
      (refreshDemand t h s).downstream = s.downstream ∧
      (refreshDemand t h s).upstream = s.upstream ∧
      (refreshDemand t h s).fifos = s.fifos ∧
      (refreshDemand t h s).management = s.management ∧
      (refreshDemand t h s).port = s.port ∧
      (refreshDemand t h s).monitor.first = s.monitor.first ∧
      (refreshDemand t h s).monitor.overflow = s.monitor.overflow ∧
      (refreshDemand t h s).monitor.quiet = s.monitor.quiet ∧
      (refreshDemand t h s).monitor.node = s.monitor.node := by
  unfold refreshDemand; (try dsimp only); (repeat' split) <;> simp

@[simp] theorem demandNotice_keeps (s : State) :
    (demandNotice s).variant = s.variant ∧
      (demandNotice s).address = s.address ∧
      (demandNotice s).now = s.now ∧
      (demandNotice s).tables = s.tables ∧
      (demandNotice s).pending = s.pending ∧
      (demandNotice s).wheel = s.wheel ∧
      (demandNotice s).reference = s.reference ∧
      (demandNotice s).monitor = s.monitor ∧
      (demandNotice s).demand.demand = s.demand.demand ∧
      (demandNotice s).demand.lastSeq = s.demand.lastSeq ∧
      (demandNotice s).demand.stamp = s.demand.stamp ∧
      (demandNotice s).demand.stale = s.demand.stale ∧
      (demandNotice s).demand.lost = s.demand.lost ∧
      (demandNotice s).demand.deadline1 = s.demand.deadline1 ∧
      (demandNotice s).demand.deadline2 = s.demand.deadline2 ∧
      (demandNotice s).demand.doorOpen = s.demand.doorOpen ∧
      (demandNotice s).demand.stopHold = s.demand.stopHold ∧
      (demandNotice s).demand.load = s.demand.load ∧
      (demandNotice s).demand.supply = s.demand.supply ∧
      (demandNotice s).scheduler.cycle = s.scheduler.cycle ∧
      (demandNotice s).control.cause = s.control.cause ∧
      (demandNotice s).control.written = s.control.written ∧
      (demandNotice s).control.commit = s.control.commit ∧
      (demandNotice s).reporter.timer = s.reporter.timer ∧
      (demandNotice s).management.queue = s.management.queue ∧
      (demandNotice s).management.responder = s.management.responder ∧
      (demandNotice s).port.u.rx = s.port.u.rx ∧
      (demandNotice s).port.d.rx = s.port.d.rx := by
  unfold demandNotice; (repeat' split) <;> simp

@[simp] theorem acceptDemand_keeps (p : DemandPayload) (t : Time) (h : Header) (s : State) :
    (acceptDemand p t h s).variant = s.variant ∧
      (acceptDemand p t h s).address = s.address ∧
      (acceptDemand p t h s).now = s.now ∧
      (acceptDemand p t h s).tables = s.tables ∧
      (acceptDemand p t h s).pending = s.pending ∧
      (acceptDemand p t h s).wheel = s.wheel ∧
      (acceptDemand p t h s).reference = s.reference ∧
      (acceptDemand p t h s).scheduler.cycle = s.scheduler.cycle ∧
      (acceptDemand p t h s).control.written = s.control.written ∧
      (acceptDemand p t h s).control.commit = s.control.commit ∧
      (acceptDemand p t h s).reporter.timer = s.reporter.timer ∧
      (acceptDemand p t h s).management.queue = s.management.queue ∧
      (acceptDemand p t h s).management.responder = s.management.responder ∧
      (acceptDemand p t h s).port.u.rx = s.port.u.rx ∧
      (acceptDemand p t h s).port.d.rx = s.port.d.rx := by
  unfold acceptDemand; simp

@[simp] theorem setStopHold_keeps (b : Bool) (s : State) :
    (setStopHold b s).variant = s.variant ∧
      (setStopHold b s).address = s.address ∧
      (setStopHold b s).now = s.now ∧
      (setStopHold b s).tables = s.tables ∧
      (setStopHold b s).pending = s.pending ∧
      (setStopHold b s).wheel = s.wheel ∧
      (setStopHold b s).reference = s.reference ∧
      (setStopHold b s).chan = s.chan ∧
      (setStopHold b s).monitor = s.monitor ∧
      (setStopHold b s).control = s.control ∧
      (setStopHold b s).reporter = s.reporter ∧
      (setStopHold b s).downstream = s.downstream ∧
      (setStopHold b s).upstream = s.upstream ∧
      (setStopHold b s).fifos = s.fifos ∧
      (setStopHold b s).management = s.management ∧
      (setStopHold b s).port = s.port ∧
      (setStopHold b s).demand.demand = s.demand.demand ∧
      (setStopHold b s).demand.lastSeq = s.demand.lastSeq ∧
      (setStopHold b s).demand.stamp = s.demand.stamp ∧
      (setStopHold b s).demand.stale = s.demand.stale ∧
      (setStopHold b s).demand.lost = s.demand.lost ∧
      (setStopHold b s).demand.deadline1 = s.demand.deadline1 ∧
      (setStopHold b s).demand.deadline2 = s.demand.deadline2 ∧
      (setStopHold b s).demand.doorOpen = s.demand.doorOpen ∧
      (setStopHold b s).demand.load = s.demand.load ∧
      (setStopHold b s).demand.supply = s.demand.supply ∧
      (setStopHold b s).scheduler.cycle = s.scheduler.cycle := by
  unfold setStopHold; (repeat' split) <;> simp

@[simp] theorem doorNotice_keeps (b : Bool) (s : State) :
    (doorNotice b s).variant = s.variant ∧
      (doorNotice b s).address = s.address ∧
      (doorNotice b s).now = s.now ∧
      (doorNotice b s).tables = s.tables ∧
      (doorNotice b s).pending = s.pending ∧
      (doorNotice b s).wheel = s.wheel ∧
      (doorNotice b s).reference = s.reference ∧
      (doorNotice b s).chan = s.chan ∧
      (doorNotice b s).monitor = s.monitor ∧
      (doorNotice b s).control = s.control ∧
      (doorNotice b s).reporter = s.reporter ∧
      (doorNotice b s).downstream = s.downstream ∧
      (doorNotice b s).upstream = s.upstream ∧
      (doorNotice b s).fifos = s.fifos ∧
      (doorNotice b s).management = s.management ∧
      (doorNotice b s).port = s.port ∧
      (doorNotice b s).demand.demand = s.demand.demand ∧
      (doorNotice b s).demand.lastSeq = s.demand.lastSeq ∧
      (doorNotice b s).demand.stamp = s.demand.stamp ∧
      (doorNotice b s).demand.stale = s.demand.stale ∧
      (doorNotice b s).demand.lost = s.demand.lost ∧
      (doorNotice b s).demand.deadline1 = s.demand.deadline1 ∧
      (doorNotice b s).demand.deadline2 = s.demand.deadline2 ∧
      (doorNotice b s).demand.load = s.demand.load ∧
      (doorNotice b s).demand.supply = s.demand.supply ∧
      (doorNotice b s).scheduler.cycle = s.scheduler.cycle := by
  unfold doorNotice; (try dsimp only); (repeat' split) <;> simp

@[simp] theorem standstillBegins_keeps (s : State) :
    (standstillBegins s).variant = s.variant ∧
      (standstillBegins s).address = s.address ∧
      (standstillBegins s).now = s.now ∧
      (standstillBegins s).tables = s.tables ∧
      (standstillBegins s).pending = s.pending ∧
      (standstillBegins s).wheel = s.wheel ∧
      (standstillBegins s).reference = s.reference ∧
      (standstillBegins s).chan = s.chan ∧
      (standstillBegins s).monitor = s.monitor ∧
      (standstillBegins s).control = s.control ∧
      (standstillBegins s).reporter = s.reporter ∧
      (standstillBegins s).downstream = s.downstream ∧
      (standstillBegins s).upstream = s.upstream ∧
      (standstillBegins s).fifos = s.fifos ∧
      (standstillBegins s).management = s.management ∧
      (standstillBegins s).port = s.port ∧
      (standstillBegins s).demand.demand = s.demand.demand ∧
      (standstillBegins s).demand.lastSeq = s.demand.lastSeq ∧
      (standstillBegins s).demand.stamp = s.demand.stamp ∧
      (standstillBegins s).demand.stale = s.demand.stale ∧
      (standstillBegins s).demand.lost = s.demand.lost ∧
      (standstillBegins s).demand.deadline1 = s.demand.deadline1 ∧
      (standstillBegins s).demand.deadline2 = s.demand.deadline2 ∧
      (standstillBegins s).demand.doorOpen = s.demand.doorOpen ∧
      (standstillBegins s).demand.load = s.demand.load ∧
      (standstillBegins s).demand.supply = s.demand.supply ∧
      (standstillBegins s).scheduler.cycle = s.scheduler.cycle := by
  unfold standstillBegins; (repeat' split) <;> simp

@[simp] theorem loadSample_keeps (a : Axle) (l : Nat) (s : State) :
    (loadSample a l s).variant = s.variant ∧
      (loadSample a l s).address = s.address ∧
      (loadSample a l s).now = s.now ∧
      (loadSample a l s).tables = s.tables ∧
      (loadSample a l s).pending = s.pending ∧
      (loadSample a l s).wheel = s.wheel ∧
      (loadSample a l s).reference = s.reference ∧
      (loadSample a l s).chan = s.chan ∧
      (loadSample a l s).monitor = s.monitor ∧
      (loadSample a l s).control = s.control ∧
      (loadSample a l s).reporter = s.reporter ∧
      (loadSample a l s).downstream = s.downstream ∧
      (loadSample a l s).upstream = s.upstream ∧
      (loadSample a l s).fifos = s.fifos ∧
      (loadSample a l s).management = s.management ∧
      (loadSample a l s).port = s.port ∧
      (loadSample a l s).demand.demand = s.demand.demand ∧
      (loadSample a l s).demand.lastSeq = s.demand.lastSeq ∧
      (loadSample a l s).demand.stamp = s.demand.stamp ∧
      (loadSample a l s).demand.stale = s.demand.stale ∧
      (loadSample a l s).demand.lost = s.demand.lost ∧
      (loadSample a l s).demand.deadline1 = s.demand.deadline1 ∧
      (loadSample a l s).demand.deadline2 = s.demand.deadline2 ∧
      (loadSample a l s).demand.doorOpen = s.demand.doorOpen ∧
      (loadSample a l s).demand.stopHold = s.demand.stopHold ∧
      (loadSample a l s).demand.supply = s.demand.supply ∧
      (loadSample a l s).scheduler.cycle = s.scheduler.cycle := by
  unfold loadSample; simp

@[simp] theorem supplyTest_keeps (a : Axle) (v : Nat) (t : Time) (h : Header) (s : State) :
    (supplyTest a v t h s).variant = s.variant ∧
      (supplyTest a v t h s).address = s.address ∧
      (supplyTest a v t h s).now = s.now ∧
      (supplyTest a v t h s).tables = s.tables ∧
      (supplyTest a v t h s).pending = s.pending ∧
      (supplyTest a v t h s).wheel = s.wheel ∧
      (supplyTest a v t h s).reference = s.reference ∧
      (supplyTest a v t h s).demand.demand = s.demand.demand ∧
      (supplyTest a v t h s).demand.lastSeq = s.demand.lastSeq ∧
      (supplyTest a v t h s).demand.stamp = s.demand.stamp ∧
      (supplyTest a v t h s).demand.stale = s.demand.stale ∧
      (supplyTest a v t h s).demand.lost = s.demand.lost ∧
      (supplyTest a v t h s).demand.deadline1 = s.demand.deadline1 ∧
      (supplyTest a v t h s).demand.deadline2 = s.demand.deadline2 ∧
      (supplyTest a v t h s).demand.doorOpen = s.demand.doorOpen ∧
      (supplyTest a v t h s).demand.stopHold = s.demand.stopHold ∧
      (supplyTest a v t h s).demand.load = s.demand.load ∧
      (supplyTest a v t h s).scheduler.cycle = s.scheduler.cycle ∧
      (supplyTest a v t h s).control.written = s.control.written ∧
      (supplyTest a v t h s).control.commit = s.control.commit ∧
      (supplyTest a v t h s).reporter.timer = s.reporter.timer ∧
      (supplyTest a v t h s).management.queue = s.management.queue ∧
      (supplyTest a v t h s).management.responder = s.management.responder ∧
      (supplyTest a v t h s).port.u.rx = s.port.u.rx ∧
      (supplyTest a v t h s).port.d.rx = s.port.d.rx := by
  unfold supplyTest; (try dsimp only); (repeat' split) <;> simp

@[simp] theorem supplyValue_keeps (a : Axle) (v : Nat) (t : Time) (h : Header) (s : State) :
    (supplyValue a v t h s).variant = s.variant ∧
      (supplyValue a v t h s).address = s.address ∧
      (supplyValue a v t h s).now = s.now ∧
      (supplyValue a v t h s).tables = s.tables ∧
      (supplyValue a v t h s).pending = s.pending ∧
      (supplyValue a v t h s).wheel = s.wheel ∧
      (supplyValue a v t h s).reference = s.reference ∧
      (supplyValue a v t h s).demand.demand = s.demand.demand ∧
      (supplyValue a v t h s).demand.lastSeq = s.demand.lastSeq ∧
      (supplyValue a v t h s).demand.stamp = s.demand.stamp ∧
      (supplyValue a v t h s).demand.stale = s.demand.stale ∧
      (supplyValue a v t h s).demand.lost = s.demand.lost ∧
      (supplyValue a v t h s).demand.deadline1 = s.demand.deadline1 ∧
      (supplyValue a v t h s).demand.deadline2 = s.demand.deadline2 ∧
      (supplyValue a v t h s).demand.doorOpen = s.demand.doorOpen ∧
      (supplyValue a v t h s).demand.stopHold = s.demand.stopHold ∧
      (supplyValue a v t h s).demand.load = s.demand.load ∧
      (supplyValue a v t h s).scheduler.cycle = s.scheduler.cycle ∧
      (supplyValue a v t h s).control.written = s.control.written ∧
      (supplyValue a v t h s).control.commit = s.control.commit ∧
      (supplyValue a v t h s).reporter.timer = s.reporter.timer ∧
      (supplyValue a v t h s).management.queue = s.management.queue ∧
      (supplyValue a v t h s).management.responder = s.management.responder ∧
      (supplyValue a v t h s).port.u.rx = s.port.u.rx ∧
      (supplyValue a v t h s).port.d.rx = s.port.d.rx := by
  unfold supplyValue; (repeat' split) <;> simp

@[simp] theorem reapplyTest_keeps (c : Chan) (s : State) :
    (reapplyTest c s).variant = s.variant ∧
      (reapplyTest c s).address = s.address ∧
      (reapplyTest c s).now = s.now ∧
      (reapplyTest c s).tables = s.tables ∧
      (reapplyTest c s).pending = s.pending ∧
      (reapplyTest c s).wheel = s.wheel ∧
      (reapplyTest c s).reference = s.reference ∧
      (reapplyTest c s).monitor = s.monitor ∧
      (reapplyTest c s).control = s.control ∧
      (reapplyTest c s).reporter = s.reporter ∧
      (reapplyTest c s).upstream = s.upstream ∧
      (reapplyTest c s).management = s.management ∧
      (reapplyTest c s).demand.demand = s.demand.demand ∧
      (reapplyTest c s).demand.lastSeq = s.demand.lastSeq ∧
      (reapplyTest c s).demand.stamp = s.demand.stamp ∧
      (reapplyTest c s).demand.stale = s.demand.stale ∧
      (reapplyTest c s).demand.lost = s.demand.lost ∧
      (reapplyTest c s).demand.deadline1 = s.demand.deadline1 ∧
      (reapplyTest c s).demand.deadline2 = s.demand.deadline2 ∧
      (reapplyTest c s).demand.doorOpen = s.demand.doorOpen ∧
      (reapplyTest c s).demand.stopHold = s.demand.stopHold ∧
      (reapplyTest c s).demand.load = s.demand.load ∧
      (reapplyTest c s).demand.supply = s.demand.supply ∧
      (reapplyTest c s).scheduler.cycle = s.scheduler.cycle ∧
      (reapplyTest c s).fifos.up = s.fifos.up ∧
      (reapplyTest c s).port.u = s.port.u ∧
      (reapplyTest c s).port.d.rx = s.port.d.rx := by
  unfold reapplyTest; (try dsimp only); (repeat' split) <;> simp

@[simp] theorem pressureSample_keeps (c : Chan) (x : Nat) (t : Time) (s : State) :
    (pressureSample c x t s).variant = s.variant ∧
      (pressureSample c x t s).address = s.address ∧
      (pressureSample c x t s).now = s.now ∧
      (pressureSample c x t s).tables = s.tables ∧
      (pressureSample c x t s).pending = s.pending ∧
      (pressureSample c x t s).wheel = s.wheel ∧
      (pressureSample c x t s).reference = s.reference ∧
      (pressureSample c x t s).control = s.control ∧
      (pressureSample c x t s).reporter = s.reporter ∧
      (pressureSample c x t s).upstream = s.upstream ∧
      (pressureSample c x t s).management = s.management ∧
      (pressureSample c x t s).demand.demand = s.demand.demand ∧
      (pressureSample c x t s).demand.lastSeq = s.demand.lastSeq ∧
      (pressureSample c x t s).demand.stamp = s.demand.stamp ∧
      (pressureSample c x t s).demand.stale = s.demand.stale ∧
      (pressureSample c x t s).demand.lost = s.demand.lost ∧
      (pressureSample c x t s).demand.deadline1 = s.demand.deadline1 ∧
      (pressureSample c x t s).demand.deadline2 = s.demand.deadline2 ∧
      (pressureSample c x t s).demand.doorOpen = s.demand.doorOpen ∧
      (pressureSample c x t s).demand.stopHold = s.demand.stopHold ∧
      (pressureSample c x t s).demand.load = s.demand.load ∧
      (pressureSample c x t s).demand.supply = s.demand.supply ∧
      (pressureSample c x t s).scheduler.cycle = s.scheduler.cycle ∧
      (pressureSample c x t s).monitor.first = s.monitor.first ∧
      (pressureSample c x t s).monitor.overflow = s.monitor.overflow ∧
      (pressureSample c x t s).monitor.quiet = s.monitor.quiet ∧
      (pressureSample c x t s).monitor.node = s.monitor.node ∧
      (pressureSample c x t s).fifos.up = s.fifos.up ∧
      (pressureSample c x t s).port.u = s.port.u ∧
      (pressureSample c x t s).port.d.rx = s.port.d.rx := by
  unfold pressureSample; (repeat' split) <;> simp

@[simp] theorem boundaryOf_keeps (b : Time) (c : Chan) (s : State) :
    (boundaryOf b c s).variant = s.variant ∧
      (boundaryOf b c s).address = s.address ∧
      (boundaryOf b c s).now = s.now ∧
      (boundaryOf b c s).tables = s.tables ∧
      (boundaryOf b c s).pending = s.pending ∧
      (boundaryOf b c s).wheel = s.wheel ∧
      (boundaryOf b c s).reference = s.reference ∧
      (boundaryOf b c s).demand = s.demand ∧
      (boundaryOf b c s).monitor = s.monitor ∧
      (boundaryOf b c s).control = s.control ∧
      (boundaryOf b c s).reporter = s.reporter ∧
      (boundaryOf b c s).upstream = s.upstream ∧
      (boundaryOf b c s).fifos = s.fifos ∧
      (boundaryOf b c s).management = s.management ∧
      (boundaryOf b c s).port = s.port ∧
      (boundaryOf b c s).scheduler.cycle = s.scheduler.cycle ∧
      (boundaryOf b c s).downstream.lastServed = s.downstream.lastServed := by
  unfold boundaryOf; simp

@[simp] theorem boundaryOf_all_keeps (cs : List Chan) (b : Time) (s : State) :
    (forChans cs (boundaryOf b) s).variant = s.variant ∧
      (forChans cs (boundaryOf b) s).address = s.address ∧
      (forChans cs (boundaryOf b) s).now = s.now ∧
      (forChans cs (boundaryOf b) s).tables = s.tables ∧
      (forChans cs (boundaryOf b) s).pending = s.pending ∧
      (forChans cs (boundaryOf b) s).wheel = s.wheel ∧
      (forChans cs (boundaryOf b) s).reference = s.reference ∧
      (forChans cs (boundaryOf b) s).demand = s.demand ∧
      (forChans cs (boundaryOf b) s).monitor = s.monitor ∧
      (forChans cs (boundaryOf b) s).control = s.control ∧
      (forChans cs (boundaryOf b) s).reporter = s.reporter ∧
      (forChans cs (boundaryOf b) s).upstream = s.upstream ∧
      (forChans cs (boundaryOf b) s).fifos = s.fifos ∧
      (forChans cs (boundaryOf b) s).management = s.management ∧
      (forChans cs (boundaryOf b) s).port = s.port ∧
      (forChans cs (boundaryOf b) s).scheduler.cycle = s.scheduler.cycle ∧
      (forChans cs (boundaryOf b) s).downstream.lastServed = s.downstream.lastServed := by
  induction cs generalizing s <;> simp_all [forChans_nil, forChans_cons]

@[simp] theorem boundary_keeps (a : Axle) (b : Time) (s : State) :
    (boundary a b s).variant = s.variant ∧
      (boundary a b s).address = s.address ∧
      (boundary a b s).now = s.now ∧
      (boundary a b s).tables = s.tables ∧
      (boundary a b s).pending = s.pending ∧
      (boundary a b s).wheel = s.wheel ∧
      (boundary a b s).reference = s.reference ∧
      (boundary a b s).demand = s.demand ∧
      (boundary a b s).monitor = s.monitor ∧
      (boundary a b s).control = s.control ∧
      (boundary a b s).reporter = s.reporter ∧
      (boundary a b s).upstream = s.upstream ∧
      (boundary a b s).management = s.management ∧
      (boundary a b s).fifos.up = s.fifos.up ∧
      (boundary a b s).port.u = s.port.u ∧
      (boundary a b s).port.d.rx = s.port.d.rx := by
  unfold boundary; simp

@[simp] theorem windowEnd_keeps (c : Chan) (t : Time) (s : State) :
    (windowEnd c t s).variant = s.variant ∧
      (windowEnd c t s).address = s.address ∧
      (windowEnd c t s).now = s.now ∧
      (windowEnd c t s).tables = s.tables ∧
      (windowEnd c t s).pending = s.pending ∧
      (windowEnd c t s).wheel = s.wheel ∧
      (windowEnd c t s).reference = s.reference ∧
      (windowEnd c t s).demand.demand = s.demand.demand ∧
      (windowEnd c t s).demand.lastSeq = s.demand.lastSeq ∧
      (windowEnd c t s).demand.stamp = s.demand.stamp ∧
      (windowEnd c t s).demand.stale = s.demand.stale ∧
      (windowEnd c t s).demand.lost = s.demand.lost ∧
      (windowEnd c t s).demand.deadline1 = s.demand.deadline1 ∧
      (windowEnd c t s).demand.deadline2 = s.demand.deadline2 ∧
      (windowEnd c t s).demand.doorOpen = s.demand.doorOpen ∧
      (windowEnd c t s).demand.stopHold = s.demand.stopHold ∧
      (windowEnd c t s).demand.load = s.demand.load ∧
      (windowEnd c t s).demand.supply = s.demand.supply ∧
      (windowEnd c t s).scheduler.cycle = s.scheduler.cycle ∧
      (windowEnd c t s).control.written = s.control.written ∧
      (windowEnd c t s).control.commit = s.control.commit ∧
      (windowEnd c t s).reporter.timer = s.reporter.timer ∧
      (windowEnd c t s).management.queue = s.management.queue ∧
      (windowEnd c t s).management.responder = s.management.responder ∧
      (windowEnd c t s).port.u.rx = s.port.u.rx ∧
      (windowEnd c t s).port.d.rx = s.port.d.rx := by
  unfold windowEnd; (try dsimp only); (repeat' split) <;> simp

@[simp] theorem offerRequest_keeps (r : Request) (t : Time) (h : Header) (s : State) :
    (offerRequest r t h s).variant = s.variant ∧
      (offerRequest r t h s).address = s.address ∧
      (offerRequest r t h s).now = s.now ∧
      (offerRequest r t h s).tables = s.tables ∧
      (offerRequest r t h s).pending = s.pending ∧
      (offerRequest r t h s).wheel = s.wheel ∧
      (offerRequest r t h s).reference = s.reference ∧
      (offerRequest r t h s).demand.demand = s.demand.demand ∧
      (offerRequest r t h s).demand.lastSeq = s.demand.lastSeq ∧
      (offerRequest r t h s).demand.stamp = s.demand.stamp ∧
      (offerRequest r t h s).demand.stale = s.demand.stale ∧
      (offerRequest r t h s).demand.lost = s.demand.lost ∧
      (offerRequest r t h s).demand.deadline1 = s.demand.deadline1 ∧
      (offerRequest r t h s).demand.deadline2 = s.demand.deadline2 ∧
      (offerRequest r t h s).demand.doorOpen = s.demand.doorOpen ∧
      (offerRequest r t h s).demand.stopHold = s.demand.stopHold ∧
      (offerRequest r t h s).demand.load = s.demand.load ∧
      (offerRequest r t h s).demand.supply = s.demand.supply ∧
      (offerRequest r t h s).scheduler.cycle = s.scheduler.cycle ∧
      (offerRequest r t h s).control.written = s.control.written ∧
      (offerRequest r t h s).control.commit = s.control.commit ∧
      (offerRequest r t h s).reporter.timer = s.reporter.timer ∧
      (offerRequest r t h s).port.u.rx = s.port.u.rx ∧
      (offerRequest r t h s).port.d.rx = s.port.d.rx := by
  unfold offerRequest; (repeat' split) <;> simp

@[simp] theorem finishService_keeps (s : State) :
    (finishService s).variant = s.variant ∧
      (finishService s).address = s.address ∧
      (finishService s).now = s.now ∧
      (finishService s).tables = s.tables ∧
      (finishService s).pending = s.pending ∧
      (finishService s).wheel = s.wheel ∧
      (finishService s).reference = s.reference ∧
      (finishService s).demand = s.demand ∧
      (finishService s).chan = s.chan ∧
      (finishService s).scheduler = s.scheduler ∧
      (finishService s).monitor = s.monitor ∧
      (finishService s).control = s.control ∧
      (finishService s).reporter = s.reporter ∧
      (finishService s).downstream = s.downstream ∧
      (finishService s).upstream = s.upstream ∧
      (finishService s).fifos = s.fifos ∧
      (finishService s).port = s.port := by
  unfold finishService; simp

@[simp] theorem answer_keeps (r : Request) (x : ResultCode) (l : List Byte) (s : State) :
    (answer r x l s).variant = s.variant ∧
      (answer r x l s).address = s.address ∧
      (answer r x l s).now = s.now ∧
      (answer r x l s).tables = s.tables ∧
      (answer r x l s).pending = s.pending ∧
      (answer r x l s).wheel = s.wheel ∧
      (answer r x l s).reference = s.reference ∧
      (answer r x l s).demand = s.demand ∧
      (answer r x l s).chan = s.chan ∧
      (answer r x l s).scheduler = s.scheduler ∧
      (answer r x l s).monitor = s.monitor ∧
      (answer r x l s).control = s.control ∧
      (answer r x l s).reporter = s.reporter ∧
      (answer r x l s).downstream = s.downstream ∧
      (answer r x l s).fifos.down = s.fifos.down ∧
      (answer r x l s).port.d = s.port.d ∧
      (answer r x l s).port.u.rx = s.port.u.rx := by
  unfold answer; simp

@[simp] theorem forwardFrame_keeps (p : Port) (f : Frame) (s : State) :
    (forwardFrame p f s).variant = s.variant ∧
      (forwardFrame p f s).address = s.address ∧
      (forwardFrame p f s).now = s.now ∧
      (forwardFrame p f s).tables = s.tables ∧
      (forwardFrame p f s).pending = s.pending ∧
      (forwardFrame p f s).wheel = s.wheel ∧
      (forwardFrame p f s).reference = s.reference ∧
      (forwardFrame p f s).demand.demand = s.demand.demand ∧
      (forwardFrame p f s).demand.lastSeq = s.demand.lastSeq ∧
      (forwardFrame p f s).demand.stamp = s.demand.stamp ∧
      (forwardFrame p f s).demand.stale = s.demand.stale ∧
      (forwardFrame p f s).demand.lost = s.demand.lost ∧
      (forwardFrame p f s).demand.deadline1 = s.demand.deadline1 ∧
      (forwardFrame p f s).demand.deadline2 = s.demand.deadline2 ∧
      (forwardFrame p f s).demand.doorOpen = s.demand.doorOpen ∧
      (forwardFrame p f s).demand.stopHold = s.demand.stopHold ∧
      (forwardFrame p f s).demand.load = s.demand.load ∧
      (forwardFrame p f s).demand.supply = s.demand.supply ∧
      (forwardFrame p f s).scheduler.cycle = s.scheduler.cycle ∧
      (forwardFrame p f s).control.written = s.control.written ∧
      (forwardFrame p f s).control.commit = s.control.commit ∧
      (forwardFrame p f s).reporter.timer = s.reporter.timer ∧
      (forwardFrame p f s).management.queue = s.management.queue ∧
      (forwardFrame p f s).management.responder = s.management.responder ∧
      (forwardFrame p f s).port.u.rx = s.port.u.rx ∧
      (forwardFrame p f s).port.d.rx = s.port.d.rx := by
  unfold forwardFrame; (try dsimp only); (repeat' split) <;> simp

@[simp] theorem setNode_keeps (c : Chan) (b : Bool) (s : State) :
    (setNode c b s).variant = s.variant ∧
      (setNode c b s).address = s.address ∧
      (setNode c b s).now = s.now ∧
      (setNode c b s).tables = s.tables ∧
      (setNode c b s).pending = s.pending ∧
      (setNode c b s).wheel = s.wheel ∧
      (setNode c b s).reference = s.reference ∧
      (setNode c b s).demand = s.demand ∧
      (setNode c b s).chan = s.chan ∧
      (setNode c b s).scheduler = s.scheduler ∧
      (setNode c b s).control = s.control ∧
      (setNode c b s).reporter = s.reporter ∧
      (setNode c b s).downstream = s.downstream ∧
      (setNode c b s).upstream = s.upstream ∧
      (setNode c b s).fifos = s.fifos ∧
      (setNode c b s).management = s.management ∧
      (setNode c b s).port = s.port ∧
      (setNode c b s).monitor.list = s.monitor.list ∧
      (setNode c b s).monitor.first = s.monitor.first ∧
      (setNode c b s).monitor.overflow = s.monitor.overflow ∧
      (setNode c b s).monitor.quiet = s.monitor.quiet := by
  simp [setNode]

@[simp] theorem nodeReport_keeps (x : Byte) (t : Time) (h : Header) (c : Chan) (s : State) :
    (nodeReport x t h c s).variant = s.variant ∧
      (nodeReport x t h c s).address = s.address ∧
      (nodeReport x t h c s).now = s.now ∧
      (nodeReport x t h c s).tables = s.tables ∧
      (nodeReport x t h c s).pending = s.pending ∧
      (nodeReport x t h c s).wheel = s.wheel ∧
      (nodeReport x t h c s).reference = s.reference ∧
      (nodeReport x t h c s).demand.demand = s.demand.demand ∧
      (nodeReport x t h c s).demand.lastSeq = s.demand.lastSeq ∧
      (nodeReport x t h c s).demand.stamp = s.demand.stamp ∧
      (nodeReport x t h c s).demand.stale = s.demand.stale ∧
      (nodeReport x t h c s).demand.lost = s.demand.lost ∧
      (nodeReport x t h c s).demand.deadline1 = s.demand.deadline1 ∧
      (nodeReport x t h c s).demand.deadline2 = s.demand.deadline2 ∧
      (nodeReport x t h c s).demand.doorOpen = s.demand.doorOpen ∧
      (nodeReport x t h c s).demand.stopHold = s.demand.stopHold ∧
      (nodeReport x t h c s).demand.load = s.demand.load ∧
      (nodeReport x t h c s).demand.supply = s.demand.supply ∧
      (nodeReport x t h c s).scheduler.cycle = s.scheduler.cycle ∧
      (nodeReport x t h c s).control.written = s.control.written ∧
      (nodeReport x t h c s).control.commit = s.control.commit ∧
      (nodeReport x t h c s).reporter.timer = s.reporter.timer ∧
      (nodeReport x t h c s).management.queue = s.management.queue ∧
      (nodeReport x t h c s).management.responder = s.management.responder ∧
      (nodeReport x t h c s).port.u.rx = s.port.u.rx ∧
      (nodeReport x t h c s).port.d.rx = s.port.d.rx := by
  unfold nodeReport; (repeat' split) <;> simp

@[simp] theorem copyPressureTo_keeps (x : PressurePayload) (h : Header) (c : Chan) (s : State) :
    (copyPressureTo x h c s).variant = s.variant ∧
      (copyPressureTo x h c s).address = s.address ∧
      (copyPressureTo x h c s).now = s.now ∧
      (copyPressureTo x h c s).tables = s.tables ∧
      (copyPressureTo x h c s).pending = s.pending ∧
      (copyPressureTo x h c s).wheel = s.wheel ∧
      (copyPressureTo x h c s).reference = s.reference ∧
      (copyPressureTo x h c s).demand.demand = s.demand.demand ∧
      (copyPressureTo x h c s).demand.lastSeq = s.demand.lastSeq ∧
      (copyPressureTo x h c s).demand.stamp = s.demand.stamp ∧
      (copyPressureTo x h c s).demand.stale = s.demand.stale ∧
      (copyPressureTo x h c s).demand.lost = s.demand.lost ∧
      (copyPressureTo x h c s).demand.deadline1 = s.demand.deadline1 ∧
      (copyPressureTo x h c s).demand.deadline2 = s.demand.deadline2 ∧
      (copyPressureTo x h c s).demand.doorOpen = s.demand.doorOpen ∧
      (copyPressureTo x h c s).demand.stopHold = s.demand.stopHold ∧
      (copyPressureTo x h c s).demand.load = s.demand.load ∧
      (copyPressureTo x h c s).scheduler.cycle = s.scheduler.cycle ∧
      (copyPressureTo x h c s).control.written = s.control.written ∧
      (copyPressureTo x h c s).control.commit = s.control.commit ∧
      (copyPressureTo x h c s).reporter.timer = s.reporter.timer ∧
      (copyPressureTo x h c s).management.queue = s.management.queue ∧
      (copyPressureTo x h c s).management.responder = s.management.responder ∧
      (copyPressureTo x h c s).port.u.rx = s.port.u.rx ∧
      (copyPressureTo x h c s).port.d.rx = s.port.d.rx := by
  unfold copyPressureTo; (repeat' split) <;> simp

@[simp] theorem wheelSample_all_keeps (cs : List Chan) (x : WheelPayload) (h : Header) (s : State) :
    (forChans cs (fun c s => wheelSample c x s.now h s) s).variant = s.variant ∧
      (forChans cs (fun c s => wheelSample c x s.now h s) s).address = s.address ∧
      (forChans cs (fun c s => wheelSample c x s.now h s) s).now = s.now ∧
      (forChans cs (fun c s => wheelSample c x s.now h s) s).tables = s.tables ∧
      (forChans cs (fun c s => wheelSample c x s.now h s) s).pending = s.pending ∧
      (forChans cs (fun c s => wheelSample c x s.now h s) s).demand.demand = s.demand.demand ∧
      (forChans cs (fun c s => wheelSample c x s.now h s) s).demand.lastSeq = s.demand.lastSeq ∧
      (forChans cs (fun c s => wheelSample c x s.now h s) s).demand.stamp = s.demand.stamp ∧
      (forChans cs (fun c s => wheelSample c x s.now h s) s).demand.stale = s.demand.stale ∧
      (forChans cs (fun c s => wheelSample c x s.now h s) s).demand.lost = s.demand.lost ∧
      (forChans cs (fun c s => wheelSample c x s.now h s) s).demand.deadline1 = s.demand.deadline1 ∧
      (forChans cs (fun c s => wheelSample c x s.now h s) s).demand.deadline2 = s.demand.deadline2 ∧
      (forChans cs (fun c s => wheelSample c x s.now h s) s).demand.doorOpen = s.demand.doorOpen ∧
      (forChans cs (fun c s => wheelSample c x s.now h s) s).demand.stopHold = s.demand.stopHold ∧
      (forChans cs (fun c s => wheelSample c x s.now h s) s).demand.load = s.demand.load ∧
      (forChans cs (fun c s => wheelSample c x s.now h s) s).demand.supply = s.demand.supply ∧
      (forChans cs (fun c s => wheelSample c x s.now h s) s).scheduler.cycle = s.scheduler.cycle ∧
      (forChans cs (fun c s => wheelSample c x s.now h s) s).control.written = s.control.written ∧
      (forChans cs (fun c s => wheelSample c x s.now h s) s).control.commit = s.control.commit ∧
      (forChans cs (fun c s => wheelSample c x s.now h s) s).reporter.timer = s.reporter.timer ∧
      (forChans cs (fun c s => wheelSample c x s.now h s) s).management.queue = s.management.queue ∧
      (forChans cs (fun c s => wheelSample c x s.now h s) s).management.responder = s.management.responder ∧
      (forChans cs (fun c s => wheelSample c x s.now h s) s).port.u.rx = s.port.u.rx ∧
      (forChans cs (fun c s => wheelSample c x s.now h s) s).port.d.rx = s.port.d.rx := by
  induction cs generalizing s <;> simp_all [forChans_nil, forChans_cons]

@[simp] theorem copyPressureTo_all_keeps (cs : List Chan) (x : PressurePayload) (h : Header) (s : State) :
    (forChans cs (copyPressureTo x h) s).variant = s.variant ∧
      (forChans cs (copyPressureTo x h) s).address = s.address ∧
      (forChans cs (copyPressureTo x h) s).now = s.now ∧
      (forChans cs (copyPressureTo x h) s).tables = s.tables ∧
      (forChans cs (copyPressureTo x h) s).pending = s.pending ∧
      (forChans cs (copyPressureTo x h) s).wheel = s.wheel ∧
      (forChans cs (copyPressureTo x h) s).reference = s.reference ∧
      (forChans cs (copyPressureTo x h) s).demand.demand = s.demand.demand ∧
      (forChans cs (copyPressureTo x h) s).demand.lastSeq = s.demand.lastSeq ∧
      (forChans cs (copyPressureTo x h) s).demand.stamp = s.demand.stamp ∧
      (forChans cs (copyPressureTo x h) s).demand.stale = s.demand.stale ∧
      (forChans cs (copyPressureTo x h) s).demand.lost = s.demand.lost ∧
      (forChans cs (copyPressureTo x h) s).demand.deadline1 = s.demand.deadline1 ∧
      (forChans cs (copyPressureTo x h) s).demand.deadline2 = s.demand.deadline2 ∧
      (forChans cs (copyPressureTo x h) s).demand.doorOpen = s.demand.doorOpen ∧
      (forChans cs (copyPressureTo x h) s).demand.stopHold = s.demand.stopHold ∧
      (forChans cs (copyPressureTo x h) s).demand.load = s.demand.load ∧
      (forChans cs (copyPressureTo x h) s).scheduler.cycle = s.scheduler.cycle ∧
      (forChans cs (copyPressureTo x h) s).control.written = s.control.written ∧
      (forChans cs (copyPressureTo x h) s).control.commit = s.control.commit ∧
      (forChans cs (copyPressureTo x h) s).reporter.timer = s.reporter.timer ∧
      (forChans cs (copyPressureTo x h) s).management.queue = s.management.queue ∧
      (forChans cs (copyPressureTo x h) s).management.responder = s.management.responder ∧
      (forChans cs (copyPressureTo x h) s).port.u.rx = s.port.u.rx ∧
      (forChans cs (copyPressureTo x h) s).port.d.rx = s.port.d.rx := by
  induction cs generalizing s <;> simp_all [forChans_nil, forChans_cons]

@[simp] theorem nodeReport_all_keeps (cs : List Chan) (x : Byte) (h : Header) (s : State) :
    (forChans cs (fun c s => nodeReport x s.now h c s) s).variant = s.variant ∧
      (forChans cs (fun c s => nodeReport x s.now h c s) s).address = s.address ∧
      (forChans cs (fun c s => nodeReport x s.now h c s) s).now = s.now ∧
      (forChans cs (fun c s => nodeReport x s.now h c s) s).tables = s.tables ∧
      (forChans cs (fun c s => nodeReport x s.now h c s) s).pending = s.pending ∧
      (forChans cs (fun c s => nodeReport x s.now h c s) s).wheel = s.wheel ∧
      (forChans cs (fun c s => nodeReport x s.now h c s) s).reference = s.reference ∧
      (forChans cs (fun c s => nodeReport x s.now h c s) s).demand.demand = s.demand.demand ∧
      (forChans cs (fun c s => nodeReport x s.now h c s) s).demand.lastSeq = s.demand.lastSeq ∧
      (forChans cs (fun c s => nodeReport x s.now h c s) s).demand.stamp = s.demand.stamp ∧
      (forChans cs (fun c s => nodeReport x s.now h c s) s).demand.stale = s.demand.stale ∧
      (forChans cs (fun c s => nodeReport x s.now h c s) s).demand.lost = s.demand.lost ∧
      (forChans cs (fun c s => nodeReport x s.now h c s) s).demand.deadline1 = s.demand.deadline1 ∧
      (forChans cs (fun c s => nodeReport x s.now h c s) s).demand.deadline2 = s.demand.deadline2 ∧
      (forChans cs (fun c s => nodeReport x s.now h c s) s).demand.doorOpen = s.demand.doorOpen ∧
      (forChans cs (fun c s => nodeReport x s.now h c s) s).demand.stopHold = s.demand.stopHold ∧
      (forChans cs (fun c s => nodeReport x s.now h c s) s).demand.load = s.demand.load ∧
      (forChans cs (fun c s => nodeReport x s.now h c s) s).demand.supply = s.demand.supply ∧
      (forChans cs (fun c s => nodeReport x s.now h c s) s).scheduler.cycle = s.scheduler.cycle ∧
      (forChans cs (fun c s => nodeReport x s.now h c s) s).control.written = s.control.written ∧
      (forChans cs (fun c s => nodeReport x s.now h c s) s).control.commit = s.control.commit ∧
      (forChans cs (fun c s => nodeReport x s.now h c s) s).reporter.timer = s.reporter.timer ∧
      (forChans cs (fun c s => nodeReport x s.now h c s) s).management.queue = s.management.queue ∧
      (forChans cs (fun c s => nodeReport x s.now h c s) s).management.responder = s.management.responder ∧
      (forChans cs (fun c s => nodeReport x s.now h c s) s).port.u.rx = s.port.u.rx ∧
      (forChans cs (fun c s => nodeReport x s.now h c s) s).port.d.rx = s.port.d.rx := by
  induction cs generalizing s <;> simp_all [forChans_nil, forChans_cons]

end Sys2Proof.Machine
end

