-- ==== Sys2Proof/Laws/Cases.lean ====
section
/-! SUPPORT. What the shared operations do, said once: the arbiters, placing an answer or a notice, a report, an entry, a due
timer, a request in service, the settle window, the pulse limits and the targets. -/

namespace Sys2Proof.Machine

open Sys2Proof

/-! ## Outcomes -/

/-- A command in service of its row: the row's effect. -/
theorem completeService_serving {row : RequestRow} {r : Request} {s : State} (h : Serving row r s)
    (f : Request → State → State) : completeService row f s = f r s := by
  simp [completeService, h.1, h.2]

/-- A command of a row that is not in service changes nothing. -/
theorem completeService_other {row : RequestRow} {s : State} (h : ∀ r, ¬ Serving row r s)
    (f : Request → State → State) : completeService row f s = s := by
  unfold completeService
  split
  · rename_i r hr
    have := h r
    simp_all
  · rfl

/-- A timer that is due gives its event at its expiry. -/
theorem onDue_of_due {s : State} {timer : Option Time} {e : Time} (h : Due s timer e) (f : Time → State → State) :
    onDue timer f s = f e s := by
  have r : reached s.now e = true := decide_eq_true h.2
  simp only [onDue, due, h.1, r, if_true]

/-- A timer that does not run gives no event. -/
theorem onDue_of_stopped (f : Time → State → State) (s : State) : onDue none f s = s := rfl

/-- A timer whose expiry part time has not reached gives no event. -/
theorem onDue_of_early {s : State} {e : Time} (h : 2 ^ 31 ≤ elapsed s.now e) (f : Time → State → State) :
    onDue (some e) f s = s := by
  have r : reached s.now e = false := decide_eq_false (Nat.not_lt.mpr h)
  simp [onDue, due, r]

/-! ## The arbiters -/

/-- A sending port D chooses nothing. -/
theorem chooseDown_of_sending {f : Frame} {s : State} (h : s.port.d.tx = .sending f) : chooseDown s = s := by
  simp [chooseDown, h]

/-- A sending port U chooses nothing. -/
theorem chooseUp_of_sending {f : Frame} {s : State} (h : s.port.u.tx = .sending f) : chooseUp s = s := by
  simp [chooseUp, h]

/-- An idle port U with an answer waiting sends the answer and frees its place. -/
theorem chooseUp_of_response {r : Response} {rest : List Response} {s : State} (h : s.port.u.tx = .idle)
    (hr : s.upstream.responses = r :: rest) :
    chooseUp s =
      beginOwn .u r.dest mgmtResponseKind (responsePayload r)
        { s with upstream := { s.upstream with responses := rest }
                 management := { s.management with reserved := s.management.reserved - 1 } } := by
  simp [chooseUp, h, hr]

/-- Everything the choice of port U can do. -/
theorem chooseUp_cases (s : State) :
    (chooseUp s = s) ∨
    (∃ r rest, s.port.u.tx = .idle ∧ s.upstream.responses = r :: rest ∧
      chooseUp s =
        beginOwn .u r.dest mgmtResponseKind (responsePayload r)
          { s with upstream := { s.upstream with responses := rest }
                   management := { s.management with reserved := s.management.reserved - 1 } }) ∨
    (∃ n, s.port.u.tx = .idle ∧ s.upstream.responses = [] ∧ s.upstream.notice = some n ∧
      chooseUp s =
        beginOwn .u 0 statusNoticeKind (noticePayload n) { s with upstream := { s.upstream with notice := none } }) ∨
    (∃ f rest, s.port.u.tx = .idle ∧ s.upstream.responses = [] ∧ s.upstream.notice = none ∧ s.fifos.up = f :: rest ∧
      chooseUp s = beginFrame .u f { s with fifos := { s.fifos with up := rest } }) := by
  unfold chooseUp
  split
  · exact .inl rfl
  · rename_i h
    split
    · rename_i r rest hr
      exact .inr (.inl ⟨r, rest, h, hr, rfl⟩)
    · rename_i hr
      split
      · rename_i n hn
        exact .inr (.inr (.inl ⟨n, h, hr, hn, rfl⟩))
      · rename_i hn
        split
        · rename_i f rest hf
          exact .inr (.inr (.inr ⟨f, rest, h, hr, hn, hf, rfl⟩))
        · exact .inl rfl

/-- Everything the choice of port D can do. -/
theorem chooseDown_cases (s : State) :
    (chooseDown s = s) ∨
    (∃ c x, s.port.d.tx = .idle ∧ nextCommand s.variant s.downstream = some (c, x) ∧
      chooseDown s =
        beginOwn .d x.node valveCommandKind (valvePayload x)
          { s with downstream := { slots := s.downstream.slots.put c none, lastServed := c } }) ∨
    (∃ f rest, s.port.d.tx = .idle ∧ nextCommand s.variant s.downstream = none ∧ s.fifos.down = f :: rest ∧
      chooseDown s = beginFrame .d f { s with fifos := { s.fifos with down := rest } }) := by
  unfold chooseDown
  split
  · exact .inl rfl
  · rename_i h
    split
    · rename_i c x hx
      exact .inr (.inl ⟨c, x, h, hx, rfl⟩)
    · rename_i hx
      split
      · rename_i f rest hf
        exact .inr (.inr ⟨f, rest, h, hx, hf, rfl⟩)
      · exact .inl rfl

/-! ## Answers and notices -/

/-- While port U is sending, a response waits behind the others. -/
theorem placeResponse_of_sending {f : Frame} {s : State} (r : Response) (h : s.port.u.tx = .sending f) :
    placeResponse r s = { s with upstream := { s.upstream with responses := s.upstream.responses ++ [r] } } := by
  simp [placeResponse, chooseUp, h]

/-- While port U is sending, a notice waits in the status slot. -/
theorem placeNotice_of_sending {f : Frame} {s : State} (h : s.port.u.tx = .sending f) :
    placeNotice s = { s with upstream := { s.upstream with notice := some (buildNotice s) } } := by
  simp [placeNotice, chooseUp, h]

/-- The responder goes on to the next request. -/
theorem finishService_eq (s : State) : finishService s = { s with management := nextService s.management } := by
  cases s with
  | mk variant address now port fifos down up tables control wheel reference demand chan sched mon mgmt rep pend =>
    cases mgmt with
    | mk queue responder reserved => cases queue <;> rfl

/-! ## Reports and entries -/

/-- A masked NOTED report changes the quiet timer alone. -/
theorem report_of_masked {r : FaultReport} {s : State} (h : (s.tables.policyOf r.kind).cls = .noted)
    (hm : (s.tables.policyOf r.kind).mask = true) : report r s = rearmQuiet r s := by
  simp [report, h, hm]

/-- An entry into the state a channel is in does nothing. -/
theorem enterState_same {c : Chan} {st : ChanState} {s : State} (h : (s.chan.nth c).state = st) : enterState c st s = s := by
  simp [enterState, h]

/-- An entry into another state, step by step. -/
theorem enterState_other {c : Chan} {st : ChanState} {s : State} (h : (s.chan.nth c).state ≠ st) :
    enterState c st s =
      notifyDemand c (entrySlots c st (s.modifyChan c (entryContext st s.now (s.tables.timingOf c).maxDump))) := by
  simp [enterState, h]

/-! ## The settle window and the valve decision -/

/-- What a read shows of a settle-until, it shows with at least 1 ms to go (R181). -/
theorem settleLeft_shown_pos {now e : Time} {settle : Option Time} (h : settleShown now settle = some e) :
    settle = some e ∧ 2 ^ 31 ≤ elapsed now e ∧ 1 ≤ settleLeft now (settleShown now settle) := by
  rw [h]
  unfold settleShown at h
  cases settle with
  | none => cases h
  | some u =>
    simp only at h
    split at h
    · cases h
    · rename_i early
      injection h with h
      subst h
      have early : 2 ^ 31 ≤ (now - u).toNat := Nat.not_lt.mp fun h => early (decide_eq_true h)
      refine ⟨rfl, early, ?_⟩
      have : 1 ≤ (u - now).toNat := by bv_omega
      simp only [settleLeft, elapsed]
      omega

/-- A decision finds the settle window standing up to its settle-until, that millisecond included (R129, R132). -/
theorem settling_iff (t : Time) (x : Channel) :
    settling t x = true ↔ ∃ e, x.settleUntil = some e ∧ (t = e ∨ 2 ^ 31 ≤ elapsed t e) := by
  unfold settling
  cases x.settleUntil with
  | none => simp
  | some e =>
    simp only [reached, Bool.or_eq_true, Bool.not_eq_true', decide_eq_false_iff_not, beq_iff_eq, Option.some.injEq,
      exists_eq_left', Nat.not_lt]
    exact Or.comm

/-- The limits of step 6 leave a command within its axle's pulse limits (R129, R147). -/
theorem limitPulse_limited (e : TimingEntry) (m : Mode) (p : Nat) (h : m = .fill ∨ m = .vent) :
    PulseLimited e (limitPulse e m p) := by
  unfold limitPulse
  split
  · rfl
  · rename_i low
    split
    · rcases h with rfl | rfl <;> exact .inl rfl
    · rename_i high
      rcases h with rfl | rfl <;> exact .inr ⟨Nat.not_lt.mp low, Nat.not_le.mp high⟩

/-- So does the pressure loop (R129, R147). -/
theorem loopCommand_limited (e : TimingEntry) (curve : List (Nat × Nat)) (st : ChanState) (target measured : Nat) :
    PulseLimited e (loopCommand e curve st target measured) := by
  unfold loopCommand
  split
  · exact limitPulse_limited _ _ _ (.inl rfl)
  · split
    · exact limitPulse_limited _ _ _ (.inr rfl)
    · rfl

/-! ## Targets (R110 to R113) -/

/-- A target computed lies within its axle's P_max: the steps after the ceiling only lower it (R110). -/
theorem targetValue_le (s : State) (c : Chan) : targetValue s c ≤ (s.tables.axle.nth (s.tables.axleOf c)).pMax := by
  have hs : ∀ a v, withSupply s a v ≤ v := fun a v => by unfold withSupply; split <;> omega
  have hy : ∀ v, withYaw s c v ≤ v := fun v => by unfold withYaw; (repeat' split) <;> omega
  unfold targetValue
  exact Nat.le_trans (hy _) (Nat.le_trans (hs _ _) (Nat.min_le_right _ _))

/-- A target is computed from the tables, the channels, the demand, the loads, the supplies and stop hold alone (R110, R113). -/
theorem targetValue_congr {s t : State} (c : Chan) (tables : s.tables = t.tables) (chan : s.chan = t.chan)
    (demand : s.demand.demand = t.demand.demand) (load : s.demand.load = t.demand.load)
    (supply : s.demand.supply = t.demand.supply) (stopHold : s.demand.stopHold = t.demand.stopHold) :
    targetValue s c = targetValue t c := by
  simp only [targetValue, withYaw, withSupply, withStopHold, targetBase, gain, effectiveLoad, tables, chan, demand, load,
    supply, stopHold]

/-- A channel's target after one is computed again: its own is the value of the five steps, every other's stands (R113). -/
theorem retarget_target (c o : Chan) (s : State) :
    (retarget c s).demand.target.nth o = if c = o then targetValue s c else s.demand.target.nth o := by
  unfold retarget
  split
  · split
    · rename_i h g; rw [← g, h]
    · rfl
  · simp [setTarget, Row.nth_put]

/-- The other channel of an axle is not the channel itself (R111). -/
theorem otherChannel_ne {t : Tables} {c o : Chan} (h : t.otherChannel c = some o) : o ≠ c := by
  rintro rfl
  have := List.find?_some h
  simp at this

/-- The demand unit told of a channel computes the other channel's target again, under YAW_LIMIT in SERVICE and DEGRADED, and does
nothing else (R112). -/
theorem notifyDemand_cases (c : Chan) (s : State) :
    (∃ o, s.control.part.modulating = true ∧ (s.tables.axle.nth (s.tables.axleOf c)).pair = .yawLimit ∧
      s.tables.otherChannel c = some o ∧ notifyDemand c s = retarget o s) ∨
    (¬ (s.control.part.modulating = true ∧ (s.tables.axle.nth (s.tables.axleOf c)).pair = .yawLimit ∧
      s.tables.otherChannel c ≠ none) ∧ notifyDemand c s = s) := by
  unfold notifyDemand recompute
  by_cases h : (s.tables.axle.nth (s.tables.axleOf c)).pair = .yawLimit <;> cases g : s.tables.otherChannel c <;>
    by_cases k : s.control.part.modulating = true <;> simp [h, k, forChans]

end Sys2Proof.Machine
end

