-- ==== Sys2Proof/WellFormed.lean ====
section
/-! DEFINITION. Which commands a part of a given variant can receive: its channels and axles exist, and a BAD_LENGTH
byte has a length field of 13 to 15. -/

namespace Sys2Proof

/-- The channel exists on the variant (R38: four channels on the HG4, six on the HG6). -/
def chanExists (v : Variant) (c : Chan) : Bool := c.val < v.channels

/-- The axle exists on the variant (R38: two axles on the HG4, three on the HG6). -/
def axleExists (v : Variant) (a : Axle) : Bool := a.val < v.axles

/-- The length field, bits 3 to 0 of header byte 2, is 13, 14 or 15 (R10). -/
def badLengthByte (b : Byte) : Bool := 13 ≤ (b.extractLsb' 0 4).toNat

/-- The command can reach a part of the variant. -/
def Instr.wellFormed (v : Variant) : Instr → Bool
  | .powerOnReset _ => true
  | .pinReset _ => true
  | .receiverIdle _ => true
  | .lineError _ _ => true
  | .badLength _ b => badLengthByte b
  | .frameArrival _ _ => true
  | .transmissionComplete _ => true
  | .cycleTimerExpiry a => axleExists v a
  | .settleWindowEnd c => chanExists v c
  | .wheelDeadline1Expiry c => chanExists v c
  | .wheelDeadline2Expiry c => chanExists v c
  | .standstillTimerExpiry => true
  | .demandDeadline1Expiry => true
  | .demandDeadline2Expiry => true
  | .supplyTimerExpiry a => axleExists v a
  | .pressureDeadline1Expiry c => chanExists v c
  | .pressureDeadline2Expiry c => chanExists v c
  | .dumpTimerExpiry c => chanExists v c
  | .zeroTimerExpiry c => chanExists v c
  | .roleValveQuietTimerExpiry _ => true
  | .statusPeriodTimerExpiry => true
  | .commitCheckComplete => true
  | .dirRead => true
  | .tableWrite => true
  | .tableRead => true
  | .commit => true
  | .release => true
  | .partRead => true
  | .channelRead => true
  | .faultRead => true
  | .firstRead => true
  | .faultClear => true
  | .firstClear => true
  | .restoreChannel => true
  | .zero => true
  | .unknownRequest => true
  | .byteReceived _ _ => true

end Sys2Proof
end

