-- ==== Sys2Proof/Tests/Slice0.lean ====
section
/-! SUPPORT. The model's own tests: the commands WellFormed refuses, the manual's worked examples, one step each, and for every
statement with hypotheses a concrete state and operands that meet them. -/

namespace Sys2Proof.Tests

open Sys2Proof Sys2Proof.Machine

set_option maxRecDepth 20000

/-! ## Ill-formed commands -/

theorem test_wellFormed_channel :
    (Instr.settleWindowEnd 4).wellFormed .hg4 = false ∧ (Instr.settleWindowEnd 4).wellFormed .hg6 = true := by decide

theorem test_wellFormed_axle :
    (Instr.cycleTimerExpiry 2).wellFormed .hg4 = false ∧ (Instr.cycleTimerExpiry 2).wellFormed .hg6 = true := by decide

theorem test_wellFormed_length :
    (Instr.badLength .u 0x5C).wellFormed .hg6 = false ∧ (Instr.badLength .u 0x5D).wellFormed .hg6 = true := by decide

theorem test_no_word_decodes : decodeTableWord 8 0 = none := by decide

/-! ## The part of the worked examples

The running example's axle 0: channels 0 and 1 on node 21, the tables of chapters 4 to 8, part address 50. -/

/-- A WHEEL_MAP entry of the running example. -/
def wheelEntry (side : Side) (index : BitVec 2) : WheelEntry :=
  { present := true, side := side, axle := 0, width := .bits16, wheelNode := 21, sensorIndex := index, valveNode := 21
    valveIndex := index, tick := 4, teeth := 80, circumference := 3200 }

/-- The running example's valve curve, from entry i on. -/
def valveEntries (i : Nat) (r : Row 48 ValvePoint) : Row 48 ValvePoint :=
  (((r.put (Fin.ofNat 48 i) { x := some 10, pulse := 3 }).put (Fin.ofNat 48 (i + 1)) { x := some 50, pulse := 8 }).put
    (Fin.ofNat 48 (i + 2)) { x := some 150, pulse := 20 }).put (Fin.ofNat 48 (i + 3)) { x := some 400, pulse := 40 }

/-- The tables of the running example, axle 0 alone. -/
def bench : Tables :=
  { tablesPowerOn with
    roles := #v[5, 6, 9, 10]
    axle := tablesPowerOn.axle.put 0
      { present := true, fallback := .independent, pair := .yawLimit, pFull := 600, pMax := 650, staticLoad := 0, loadNode := 21 }
    timing := tablesPowerOn.timing.put 0
      { period := 10, minPulse := 3, lag := 80, deadband := 10, reapplyMax := 6, maxDump := 1500 }
    aux := tablesPowerOn.aux.put 0 { stopHold := 150, yawMargin := 40, supplyMargin := 50, supplyWarn := 550 }
    wheelMap := (tablesPowerOn.wheelMap.put 0 (wheelEntry .left 0)).put 1 (wheelEntry .right 1)
    loadCurve := ((tablesPowerOn.loadCurve.put 0 { x := some 300, gain := 600 }).put 1 { x := some 500, gain := 800 }).put 2
      { x := some 700, gain := 1000 }
    slipBands := ((tablesPowerOn.slipBands.put 0 { x := some 0, release := 200, reapply := 80, releaseDecel := 7000 }).put 1
      { x := some 3000, release := 170, reapply := 70, releaseDecel := 8000 }).put 2
      { x := some 8000, release := 140, reapply := 60, releaseDecel := 9000 }
    valveCurve := valveEntries 8 (valveEntries 0 tablesPowerOn.valveCurve) }

/-- A frame on the line while a test runs. -/
def filler : Frame := originate 21 11 2 0 [1]

/-- A port that sends and is ready to receive. -/
def busyPort : PortState := { rx := .ready false, tx := .sending filler, origin := 5 }

/-- A port with an idle transmitter. -/
def idlePort : PortState := { rx := .ready false, tx := .idle, origin := 5 }

/-- The part in LOADING with the tables loaded. -/
def loaded : State :=
  { State.reset with
    address := 50, now := 10020, port := { u := busyPort, d := busyPort }, tables := bench
    control := { State.reset.control with part := .loading, written := true }
    chan := (State.reset.chan.put 0 (channelInitial .yielded 0)).put 1 (channelInitial .yielded 0) }

/-- A usable speed record. -/
def speedAt (v : Nat) : SpeedRecord :=
  { base := some { count := 212, capture := 63000 }, speed := some v, decel := 2100, lastEdge := some 10000
    lastSample := some 10000, stale := false, lost := false, deadline1 := some 10060, deadline2 := some 10180 }

/-- A channel in control. -/
def inControl (st : ChanState) (measured offset : Nat) : Channel :=
  { channelInitial st offset with
    measured := some measured, stamp := some 10010, stale := false, deadline1 := some 10070, deadline2 := some 10190 }

/-- The part in SERVICE at 10,020, both channels in FOLLOW, braking from 14,600 mm/s (chapters 4 and 5). -/
def driving : State :=
  { loaded with
    control := { loaded.control with part := .service }
    wheel := (loaded.wheel.put 0 (speedAt 14450)).put 1 (speedAt 14300)
    reference := { referenceInitial with vref := some 14600, lastUpdate := some 10012 }
    demand := { demandInitial with
      demand := some 500, lastSeq := some 9, stamp := some 10010, stale := false, deadline1 := some 10060
      deadline2 := some 10160, load := demandInitial.load.put 0 (some 420)
      supply := demandInitial.supply.put 0 { supply := some 600, timer := some 10900, low := false }
      target := #v[216, 216, 0, 0, 0, 0] }
    chan := (loaded.chan.put 0 (inControl .follow 150 12)).put 1 (inControl .follow 150 0)
    scheduler := { schedulerInitial with cycle := schedulerInitial.cycle.put 0 (some 10020) }
    reporter := { lamp := .off, lampR := false, lampA := false, timer := 10100 } }

/-- The part at standstill in SERVICE, demand 0. -/
def standing : State :=
  { driving with
    reference := { referenceInitial with vref := some 0, lastUpdate := some 10012, zeroSince := some 8000, standstill := true }
    demand := { driving.demand with demand := some 0, target := Row.fill 6 0 } }

/-- Channel 1 calibrating at standstill, 40 samples of sum 482 taken (chapter 7). -/
def calibrating : State :=
  { standing with
    chan := standing.chan.put 1
      { inControl .zeroing 12 0 with
        zeroAcc := some { sum := 482, count := 40, start := 9620 }, zeroTimer := some 10020
        zeroRequest := some { source := 9, tag := 33 } }
    management := { managementInitial with reserved := 1 } }

/-- The part in VERIFY with a commit in flight. -/
def verifying : State :=
  { loaded with
    control := { loaded.control with part := .verify, commit := some { origin := .loading, request := { source := 9, tag := 40 } } }
    management := { managementInitial with reserved := 1 } }

/-- The part in BACKUP because of a lost demand. -/
def fallen : State :=
  { driving with
    control := { driving.control with part := .backup, cause := some .demandLost }
    chan := (driving.chan.put 0 (inControl .yielded 150 12)).put 1 (inControl .yielded 150 0)
    demand := { driving.demand with lost := true, stale := true, target := Row.fill 6 0 }
    reporter := { lamp := .red, lampR := true, lampA := false, timer := 10100 } }

/-- A request of source 9, tag 7, in service. -/
def request (code : Byte) (args : List Byte) : Request := { code := code, tag := 7, args := args, source := 9 }

/-- A state with a request in service. -/
def serve (code : Byte) (args : List Byte) (s : State) : State :=
  { s with management := { queue := [], responder := .serving (request code args), reserved := 1 } }

/-- The state after a command. -/
def did (c : Instr) (s : State) : State :=
  match exec c s with
  | .next t => t
  | .fault _ | .refused _ => s

/-- The last byte of a frame. -/
def lastByte (f : Frame) : Byte := f.check.extractLsb' 0 8

/-- The state in which all of a frame but its last byte has been received. -/
def arriving (p : Port) (f : Frame) (s : State) : State :=
  setReceiver p (.body f.header (f.payload ++ [f.check.extractLsb' 8 8, f.check.extractLsb' 0 8]).dropLast) s

/-- The state after a frame's arrival. -/
def taken (p : Port) (f : Frame) (s : State) : State := did (.frameArrival p (lastByte f)) (arriving p f s)

/-- The answer that waits at the head of the response FIFO. -/
def answered (s : State) : Option (ResultCode × List Byte) := s.upstream.responses.head?.map fun r => (r.result, r.data)

theorem arrives_arriving (p : Port) (f : Frame) (s : State) (h : f.payload.length = f.header.length.toNat) :
    Arrives p (lastByte f) f (arriving p f s) := by
  refine ⟨h, (f.payload ++ [f.check.extractLsb' 8 8, f.check.extractLsb' 0 8]).dropLast, ?_, ?_⟩
  · cases p <;> rfl
  · simp [lastByte, List.dropLast_append_of_ne_nil]

/-! ## Bytes on the line (R1, R2, the first example of chapter 1) -/

theorem test_check_of_digits :
    crc [0x31, 0x32, 0x33, 0x34, 0x35, 0x36, 0x37, 0x38, 0x39] = 0x29B1#16 := by decide

theorem test_header_bytes :
    headerBytes { dest := 21, kind := 6, source := 50, sequence := 5, length := 3 } = [0x55, 0xB2, 0x53] := by decide

/-- FILL 8 for channel 1 waits; it begins at the completion with port D's sequence 5, and the count becomes 6. -/
theorem test_valve_command_sent :
    let s := { driving with downstream := { driving.downstream with
      slots := driving.downstream.slots.put 1 (some { node := 21, index := 1, command := { mode := .fill, pulse := 8 } }) } }
    let t := did (.transmissionComplete .d) s
    t.port.d.tx = .sending (originate 21 6 50 5 [1, 1, 8]) ∧ t.port.d.origin = 6 ∧ t.downstream.lastServed = 1 := by decide

/-! ## Samples (chapters 4 to 7) -/

/-- The ordinary sample of chapter 4: count 219, capture 2,464. -/
def wheelFrame : Frame := originate 0 2 21 0 [1, 219, 9, 160]

theorem test_wheel_sample :
    let x := (taken .d wheelFrame driving).wheel.nth 1
    x.speed = some 14000 ∧ x.decel = 15000 ∧ x.base = some { count := 219, capture := 2464 } ∧ x.deadline2 = some 10200 := by decide

/-- Carried on in chapter 5: Vref 14,504, slip 34, OVER by the deceleration; chapter 7 takes channel 1 to DUMP. -/
theorem test_speed_update :
    let t := taken .d wheelFrame driving
    t.reference.vref = some 14504 ∧ t.reference.slip.nth 1 = 34 ∧ t.reference.decision.nth 1 = .over ∧
      (t.chan.nth 1).state = .dump ∧ (t.chan.nth 1).dumpTimer = some 11520 := by decide

/-- The 12-bit node of chapter 4. -/
theorem test_speed_of_12_bits :
    let e : WheelEntry := { wheelEntry .left 0 with width := .bits12, tick := 8, teeth := 44, circumference := 3000 }
    tickDifference e (13438 % 4096) 4000 = 1246 ∧ edgeSpeed e 3 1246 = 20520 ∧
      deceleration (some 20600) 20520 1000000 (1246 * 8) = 8025 := by decide

theorem test_slips : [(14384, 12000), (14264, 11000), (14144, 10500), (14024, 13200)].map
    (fun x : Nat × Nat => slipOf 1500 (some x.1) (some x.2)) = [165, 228, 257, 58] := by decide

theorem test_gains : interpolate [(300, 600), (500, 800), (700, 1000)] 420 = 720 ∧
    interpolate [(500, 900), (800, 700)] 601 = 833 := by decide

/-- Demands 498 and 500 give 500, targets 216; with channel 1 in DUMP at 160 kPa, channel 0's target is 200. -/
theorem test_targets :
    targetValue driving 0 = 216 ∧
      targetValue { driving with chan := driving.chan.put 1 (inControl .dump 160 0) } 0 = 200 := by decide

/-- The decisions of chapter 7's table, at a target of 500 kPa. -/
theorem test_valve_decisions :
    (([(.follow, 492), (.follow, 488), (.follow, 450), (.follow, 400), (.reapply, 470), (.reapply, 400), (.follow, 511),
      (.follow, 800)] : List (ChanState × Nat)).map fun x =>
        ((valveDecision 10020 0
          { driving with
            chan := driving.chan.put 0 (inControl x.1 x.2 0)
            demand := { driving.demand with target := Row.fill 6 500 } }).scheduler.slots.nth 0).pendingCommand) =
      [⟨.close, 0⟩, ⟨.fill, 3⟩, ⟨.fill, 8⟩, ⟨.fill, 255⟩, ⟨.fill, 5⟩, ⟨.fill, 6⟩, ⟨.vent, 3⟩, ⟨.vent, 255⟩] := by decide

/-- Raw 162 with offset 12 measures 150; E is 50 at a target of 200: FILL 8; at the next boundary settle-until is b + 88. -/
theorem test_pressure_then_boundary :
    let s := { driving with demand := { driving.demand with target := #v[200, 216, 0, 0, 0, 0] } }
    let t := taken .d (originate 0 3 21 0 [0, 0, 162]) s
    let u := did (.cycleTimerExpiry 0) t
    (t.chan.nth 0).measured = some 150 ∧ (t.scheduler.slots.nth 0).pendingCommand = ⟨.fill, 8⟩ ∧
      (u.chan.nth 0).settleUntil = some 10108 ∧ (u.chan.nth 0).trackRef = some 150 ∧
      (u.scheduler.slots.nth 0).activeCommand = ⟨.fill, 8⟩ := by decide

/-- R132: a sample in the millisecond of settle-until, taken before the window's end, writes nothing; taken after it, it may. -/
theorem test_window_and_sample_together :
    let s := { driving with
      chan := driving.chan.put 0 { inControl .follow 150 12 with settleUntil := some 10020, trackRef := some 146 } }
    let sample := taken .d (originate 0 3 21 0 [0, 0, 162])
    ((sample s).scheduler.slots.nth 0).written = false ∧
      ((sample (did (.settleWindowEnd 0) s)).scheduler.slots.nth 0).written = true := by decide

/-- R181: one millisecond before settle-until a read shows it with 1 ms to go; at settle-until, its end not yet taken, as absent. -/
theorem test_settle_until_shown :
    let s := fun u : Time => { driving with chan := driving.chan.put 0 { inControl .follow 150 12 with settleUntil := some u } }
    let shown := fun u : Time => (answered (did .channelRead (serve 7 [0, 1] (s u)))).map fun a => ((a.2.getD 6 0).toNat, (a.2.getD 8 0).toNat)
    shown 10021 = some (32 + modeCode .close, 1) ∧ shown 10020 = some (modeCode .close, 0) ∧
      shown 10019 = some (modeCode .close, 0) := by decide

/-- The calibration of chapter 7: mean 12 of 40 samples, answered OK. -/
theorem test_calibration :
    let t := did (.zeroTimerExpiry 1) calibrating
    (t.chan.nth 1).offset = 12 ∧ (t.chan.nth 1).state = .yielded ∧ answered t = some (.ok, [0, 12, 0, 40]) := by decide

/-- A demand of 25 aborts it. -/
theorem test_calibration_aborted :
    let t := taken .u (originate 0 1 5 10 [0, 25, 0, 25, 1]) calibrating
    (t.chan.nth 1).offset = 0 ∧ (t.chan.nth 1).state = .yielded ∧ answered t = some (.aborted, []) := by decide

/-! ## Requests (chapters 3, 9 and 10) -/

/-- P_max 1200 is stored as 1000 (request 2 of the first load in chapter 3). -/
theorem test_write_clamped :
    let t := did .tableWrite (serve 2 [4, 0, 0x84, 2, 88, 4, 176, 0, 0, 21] State.reset)
    t.control.part = .loading ∧ t.control.written = true ∧ (t.tables.axle.nth 0).pMax = 1000 := by decide

/-- Request 1 there: AXLE_TIMING of an absent axle. -/
theorem test_write_order :
    answered (did .tableWrite (serve 2 [5, 0, 10, 12, 0, 80, 10, 6, 5, 220]
      { State.reset with port := { u := busyPort, d := busyPort } })) = some (.order, []) := by decide

/-- Requests 8, 10 and 12 there. -/
theorem test_commit_checks :
    commitCheck { bench with roles := Row.fill 4 0 } = some { table := 2, index := 0, reason := 1 } ∧
      commitCheck { bench with timing := bench.timing.put 0 { (bench.timing.nth 0) with minPulse := 12 } } =
        some { table := 5, index := 0, reason := 4 } ∧
      commitCheck bench = none := by decide

theorem test_commit_passes :
    let t := did .commitCheckComplete verifying
    t.control.part = .service ∧ t.reporter.lamp = .off ∧ t.scheduler.cycle.nth 0 = some 10030 ∧
      answered t = some (.ok, []) := by decide

/-- R161: channel 1's node report of before the commit is raised at its passing completion: latched, DEGRADED. -/
theorem test_node_report_at_commit :
    let t := did .commitCheckComplete { verifying with monitor := { verifying.monitor with node := verifying.monitor.node.put 1 true } }
    t.control.part = .degraded ∧ (t.chan.nth 1).latch.nodeReported = true ∧
      t.monitor.list.map (fun e => (e.kind, e.locus, e.last)) = [(.nodeReported, .channel 1, 10020)] := by decide

/-- The HG4's directory. -/
theorem test_directory_walk :
    [0, 3, 7, 1, 9, 5, 11, 2, 10, 4, 8, 6].map (fun n => (descriptorBytes .hg4 n).map BitVec.toNat) =
      [[0, 12, 5, 0, 3], [1, 8, 2, 1, 7], [2, 4, 1, 1, 1], [3, 8, 2, 1, 9], [4, 2, 8, 1, 5], [5, 2, 8, 1, 11], [6, 2, 7, 1, 2],
       [7, 4, 7, 1, 10], [8, 16, 4, 1, 4], [9, 12, 8, 1, 8], [10, 32, 3, 1, 6], [11, 16, 2, 1, 255]] := by decide

/-- A fault entry of the eviction example. -/
def entry (k : FaultKind) (l : Locus) (ack : Bool) : FaultEntry :=
  { kind := k, locus := l, first := 100, last := 100, count := 1, acknowledged := ack, present := false }

/-- The sixteen entries of the eviction example (chapter 9). -/
def sixteen : List FaultEntry :=
  [entry .linkCrc (.port .u) false, entry .wheelLost (.channel 2) true, entry .supplyLow (.axle 1) true] ++
  allChans.map (fun c => entry .wheelImplausible (.channel c) false) ++
  allChans.map (fun c => entry .zeroRange (.channel c) false) ++ [entry .supplyLow (.axle 0) false]

/-- The part with a full list. -/
def crowded : State := { driving with monitor := { driving.monitor with list := sixteen } }

theorem test_eviction :
    let a := report (reportOf .linkFormat (.port .d) 10020 none) crowded
    let b := report (reportOf .linkCrc (.port .d) 10020 none) a
    let c := report (reportOf .pressureLost (.channel 1) 10020 none) b
    let d := report (reportOf .linkFormat (.port .d) 10020 none) c
    a.monitor.overflow = false ∧ (a.monitor.list[15]?).map (·.kind) = some .linkFormat ∧ b.monitor.overflow = true ∧
      b.monitor.list = a.monitor.list ∧ (c.monitor.list[15]?).map (·.kind) = some .pressureLost ∧
      (c.chan.nth 1).state = .yielded ∧ c.control.part = .degraded ∧ d.monitor.list.length = 16 ∧
      (d.monitor.list[14]?).map (·.count) = some 2 := by decide

/-- WHEEL_LOST of channel 1, acknowledged while its condition stands: HELD, and the lamp stays AMBER. -/
theorem test_fault_held :
    let s := did (.wheelDeadline2Expiry 1) { driving with wheel := driving.wheel.put 1 { speedAt 14300 with deadline2 := some 10020 } }
    let t := did .faultClear (serve 10 [9, 17, 1] s)
    s.control.part = .degraded ∧ s.reporter.lamp = .amber ∧ answered t = some (.held, []) ∧ t.reporter.lamp = .amber := by decide

/-- The part taken to BACKUP by a lost demand (chapter 11): the purge has replaced what waited, and the lamp is RED. -/
theorem test_demand_lost :
    let t := did .demandDeadline2Expiry { driving with demand := { driving.demand with deadline2 := some 10020 } }
    t.control.part = .backup ∧ t.control.cause = some .demandLost ∧ (t.chan.nth 0).state = .yielded ∧
      t.demand.target.nth 0 = 0 ∧ t.reporter.lamp = .red ∧
      t.downstream.slots.nth 1 = some { node := 21, index := 1, command := ⟨.yield, 0⟩ } := by decide

theorem test_reset_twice : did (.pinReset 2) loaded = did (.pinReset 2) (did (.pinReset 2) loaded) ∧
    (did (.pinReset 2) loaded).control.part = .loading := by decide

/-! ## Witnesses: states and operands that meet the hypotheses of the statements, clause by clause -/

theorem witness_StepTakesTheFront :
    ({ driving with pending := [.dirRead, .zero] } : State).pending = .dirRead :: [.zero] ∧ driving.pending = [] := by decide

theorem witness_EveryCommandCompletes : ∀ k, Instr.dirRead ≠ .powerOnReset k ∧ Instr.dirRead ≠ .pinReset k := by decide

theorem witness_ContentsChangeOnlyByWriteOrPowerOn :
    exec (.zeroTimerExpiry 1) calibrating = .next (did (.zeroTimerExpiry 1) calibrating) ∧
      Instr.zeroTimerExpiry 1 ≠ .tableWrite ∧ (∀ k, Instr.zeroTimerExpiry 1 ≠ .powerOnReset k) ∧
      Instr.zeroTimerExpiry 1 ≠ .zeroTimerExpiry 0 := ⟨rfl, by decide, by decide, by decide⟩

theorem inRange_bench : TablesInRange .hg6 bench :=
  ⟨by decide, by decide, by decide, by decide, by decide, by decide, by decide, by decide, by decide⟩

theorem witness_PartStateEdges :
    TablesInRange standing.variant standing.tables ∧ exec .release (serve 5 [] standing) = .next (did .release (serve 5 [] standing)) ∧
      (did .release (serve 5 [] standing)).control.part ≠ standing.control.part ∧
      (let s := { driving with chan := driving.chan.put 0 { inControl .dump 150 12 with dumpTimer := some 10020 } }
       s.control.part = .service ∧ (did (.dumpTimerExpiry 0) s).control.part = .degraded) ∧
      (let s := { driving with demand := { driving.demand with deadline2 := some 10020 } }
       s.control.part.modulating = true ∧ (did .demandDeadline2Expiry s).control.part = .backup) :=
  ⟨inRange_bench, rfl, by decide⟩

theorem witness_TablesAtReset :
    exec (.powerOnReset 2) driving = .next (did (.powerOnReset 2) driving) ∧
      exec (.pinReset 2) driving = .next (did (.pinReset 2) driving) := ⟨rfl, rfl⟩

theorem witness_ReceiverStates :
    State.reset.port.u.rx = .waitIdle ∧ (setReceiver .d .discard driving).port.d.rx = .discard ∧
      driving.port.u.rx = .ready false ∧ (driving.received .u).port.u.rx = .ready true ∧
      (setReceiver .u (.header 0x55 none) driving).port.u.rx = .header 0x55 none ∧
      (setReceiver .u (.header 0x55 (some 0xB2)) driving).port.u.rx = .header 0x55 (some 0xB2) ∧
      ((0x5C : Byte).extractLsb' 0 4).toNat ≤ 12 ∧ ((0x50 : Byte).extractLsb' 0 4).toNat ≤ 12 ∧
      (setReceiver .u (.body filler.header [1]) driving).port.u.rx = .body filler.header [1] ∧
      [(1 : Byte)].length + 1 < filler.header.length.toNat + 2 := by decide

/-- The shortest and the longest frame. -/
theorem witness_ReceiverRebuildsFrames :
    driving.port.u.rx = .ready false ∧
      (originate 21 11 2 0 []).payload.length = (originate 21 11 2 0 []).header.length.toNat ∧
      (originate 21 11 2 0 (List.replicate 12 1)).payload.length =
        (originate 21 11 2 0 (List.replicate 12 1)).header.length.toNat ∧
      (originate 21 11 2 0 (List.replicate 12 1)).payload.length ≤ 12 := by decide

theorem witness_ReceiverStates_last :
    13 ≤ ((0x5D : Byte).extractLsb' 0 4).toNat ∧
      (setReceiver .u (.body filler.header [1, 2]) driving).port.u.rx = .body filler.header [1, 2] ∧
      [(1 : Byte), 2].length + 1 = filler.header.length.toNat + 2 := by decide

theorem witness_LineErrors :
    driving.port.d.rx = .ready false ∧ (setReceiver .d (.header 1 none) driving).port.d.rx = .header 1 none ∧
      (setReceiver .d (.body filler.header []) driving).port.d.rx = .body filler.header [] ∧
      (driving.received .d).port.d.rx = .ready true := by decide

theorem witness_BadLength :
    (setReceiver .d (.header 1 (some 2)) driving).port.d.rx = .header 1 (some 2) ∧
      13 ≤ ((0x5D : Byte).extractLsb' 0 4).toNat ∧ 13 ≤ ((0x5F : Byte).extractLsb' 0 4).toNat ∧
      (setReceiver .d .discard driving).port.d.rx = .discard := by decide

/-- A frame of kind 12, empty, with a wrong check. -/
def brokenFrame : Frame := { originate 21 12 2 0 [] with check := 0 }

/-- The frame of the demand node with the last accepted sequence. -/
def repeatedDemand : Frame := originate 0 1 5 9 [1, 144, 1, 144, 1]

theorem witness_ArrivalTests :
    Arrives .u (lastByte brokenFrame) brokenFrame (arriving .u brokenFrame driving) ∧
      brokenFrame.check ≠ crc (headerBytes brokenFrame.header ++ brokenFrame.payload) ∧
      kindOf (originate 21 0 2 0 [1]).header.kind = .invalid ∧
      lengthPermitted (kindOf (originate 21 3 2 0 [1, 2, 3, 4]).header.kind) (originate 21 3 2 0 [1, 2, 3, 4]).payload.length = false ∧
      Arrives .u (lastByte repeatedDemand) repeatedDemand (arriving .u repeatedDemand driving) ∧ Intact repeatedDemand ∧
      DuplicateDemand .u repeatedDemand.header driving ∧ ¬ DuplicateDemand .d repeatedDemand.header driving ∧
      ¬ DuplicateDemand .u repeatedDemand.header State.reset :=
  ⟨arrives_arriving _ _ _ (by decide), by decide, by decide, by decide, arrives_arriving _ _ _ (by decide), by decide, by decide,
    by decide, by decide⟩

theorem witness_ArbiterChoices :
    driving.port.d.tx = .sending filler ∧ driving.downstream.lastServed.val < driving.variant.channels ∧
      driving.port.u.tx = .sending filler ∧ (did (.zeroTimerExpiry 1) calibrating).upstream.responses ≠ [] ∧
      driving.upstream.responses = [] ∧ driving.upstream.notice = none ∧
      (did .statusPeriodTimerExpiry { driving with now := 10100 }).upstream.notice ≠ none := by decide

/-- A frame that arrives at a port, intact and of a kind the tests take, and for another address. -/
theorem sorted_arriving (p : Port) (f : Frame) (s : State) (h : f.payload.length = f.header.length.toNat) (hi : Intact f)
    (hd : ¬ DuplicateDemand p f.header (arriving p f s)) (ha : f.header.dest ≠ (arriving p f s).address) :
    Sorted p (lastByte f) f (arriving p f s) := ⟨arrives_arriving p f s h, hi, hd, ha⟩

theorem own_arriving (p : Port) (f : Frame) (s : State) (h : f.payload.length = f.header.length.toNat) (hi : Intact f)
    (hd : ¬ DuplicateDemand p f.header (arriving p f s)) (ha : f.header.dest = (arriving p f s).address) :
    Own p (lastByte f) f (arriving p f s) := ⟨arrives_arriving p f s h, hi, hd, ha⟩

/-- PART_READ of node 9, and of node 12, which is not accepted (chapter 2's arrivals 1 and 2). -/
theorem witness_OwnFrames :
    Own .u (lastByte (originate 50 9 9 0 [6, 1])) (originate 50 9 9 0 [6, 1]) (arriving .u (originate 50 9 9 0 [6, 1]) driving) ∧
      Own .d (lastByte (originate 50 12 30 0 [])) (originate 50 12 30 0 []) (arriving .d (originate 50 12 30 0 []) driving) ∧
      kindOf (originate 50 12 30 0 []).header.kind ≠ .mgmtRequest ∧
      kindOf (originate 50 9 9 0 [6, 1]).header.kind = .mgmtRequest ∧
      (driving.tables.roles.nth 2 = 0 ∨ driving.tables.roles.nth 3 = 0 ∨ (9 : Node) = driving.tables.roles.nth 2 ∨
        (9 : Node) = driving.tables.roles.nth 3) ∧
      ¬ (driving.tables.roles.nth 2 = 0 ∨ driving.tables.roles.nth 3 = 0 ∨ (12 : Node) = driving.tables.roles.nth 2 ∨
        (12 : Node) = driving.tables.roles.nth 3) ∧
      driving.management.queue.length < 4 ∧ driving.management.reserved < 12 ∧ driving.management.responder = .idle ∧
      driving.management.queue = [] ∧ (serve 6 [] driving).management.responder = .serving (request 6 []) ∧
      ¬ (({ driving with management := { driving.management with reserved := 12 } } : State).management.queue.length < 4 ∧
        ({ driving with management := { driving.management with reserved := 12 } } : State).management.reserved < 12) :=
  ⟨own_arriving _ _ _ (by decide) (by decide) (by decide) (by decide),
    own_arriving _ _ _ (by decide) (by decide) (by decide) (by decide), by decide⟩

/-- Chapter 2's arrival 7. -/
theorem witness_ForeignValveCommand :
    Sorted .d (lastByte (originate 21 6 40 0 [0, 1, 20])) (originate 21 6 40 0 [0, 1, 20])
        (arriving .d (originate 21 6 40 0 [0, 1, 20]) driving) ∧
      kindOf (originate 21 6 40 0 [0, 1, 20]).header.kind = .valveCommand :=
  ⟨sorted_arriving _ _ _ (by decide) (by decide) (by decide) (by decide), by decide⟩

/-- The tables with one up window, [1, 20] (chapter 2). -/
def narrow : Tables := { bench with forward := bench.forward.put 4 { base := 1, limit := 20 } }

theorem witness_Forwarding :
    Passes .d 1 narrow ∧ Passes .d 20 narrow ∧ ¬ Passes .d 0 narrow ∧ ¬ Passes .d 21 narrow ∧ Passes .u 63 narrow ∧
      12 ≤ (({ driving with fifos := { down := List.replicate 12 filler, up := [] } } : State).fifos.sel (directionFrom .u)).length ∧
      (({ driving with fifos := { down := List.replicate 11 filler, up := [] } } : State).fifos.sel (directionFrom .u)).length < 12 ∧
      (driving.port.sel .d).tx = .sending filler ∧
      (({ driving with port := { driving.port with d := idlePort } } : State).port.sel .d).tx = .idle ∧
      Sorted .u (lastByte filler) filler (arriving .u filler driving) ∧
      Sorted .u (lastByte (originate 0 1 7 0 [3, 132, 3, 132, 1])) (originate 0 1 7 0 [3, 132, 3, 132, 1])
        (arriving .u (originate 0 1 7 0 [3, 132, 3, 132, 1]) driving) ∧
      driving.tables.roles.nth 0 ≠ 0 ∧ (originate 0 1 7 0 [3, 132, 3, 132, 1]).header.source ≠ driving.tables.roles.nth 0 :=
  ⟨by decide, by decide, by decide, by decide, by decide, by decide, by decide, by decide, by decide,
    sorted_arriving _ _ _ (by decide) (by decide) (by decide) (by decide),
    sorted_arriving _ _ _ (by decide) (by decide) (by decide) (by decide), by decide, by decide⟩

theorem witness_Forwarding_idle :
    NothingWaits .d { driving with port := { driving.port with d := idlePort } } ∧
      NothingWaits .u { driving with port := { driving.port with u := idlePort } } ∧
      NotCopied driving.variant driving.tables .u filler ∧
      NotCopied driving.variant driving.tables .d (originate 0 4 22 0 [0, 1, 164]) := by
  refine ⟨⟨by decide, by decide⟩, ⟨by decide, by decide, by decide⟩, trivial, Or.inr ?_⟩
  decide

/-- The full list of chapter 9's example, its first acknowledged NOTED entry, and its first NOTED one where none is acknowledged. -/
theorem witness_ReportRecorded :
    (∃ xs ys, crowded.monitor.list = xs ++ entry .supplyLow (.axle 1) true :: ys ∧
      ∀ x ∈ xs, ¬ (x.acknowledged = true ∧ (crowded.tables.policyOf x.kind).cls = .noted)) ∧
    (∃ ys, crowded.monitor.list = [] ++ entry .linkCrc (.port .u) false :: ys) ∧
    16 ≤ crowded.monitor.list.length ∧ driving.monitor.list.length < 16 ∧
    (∀ x ∈ crowded.monitor.list.eraseIdx 2, ¬ (x.acknowledged = true ∧ (crowded.tables.policyOf x.kind).cls = .noted)) ∧
    (∃ e ∈ crowded.monitor.list, e.kind = .zeroRange ∧ e.locus = .channel 5) ∧
    (let masked := { bench with policy := bench.policy.put 0 { cls := .noted, mask := true } }
     (masked.policy.nth 0).cls = .noted ∧ (masked.policy.nth 0).mask = true) := by
  refine ⟨⟨sixteen.take 2, sixteen.drop 3, by decide, by decide⟩, ⟨sixteen.drop 1, by decide⟩, by decide⟩

theorem control_driving : ControlSound driving where
  commit := by decide
  states := by decide
  zeroing := by decide
  dumping := by decide
  latched := by decide
  cycles := by decide
  deadlines := by decide
  waiting := fun h => absurd h (by decide)
  targets := by decide
  checked := by decide

theorem heldOut_driving : HeldOutSound driving := ⟨by decide, by decide, by decide, by decide⟩

theorem witness_ChannelClassAction :
    (∀ c : Chan, 2 ≤ c.val → driving.tables.mapped c = false) ∧ loaded.control.part.committed = false ∧
      driving.control.part.committed = true ∧ driving.tables.mapped 0 = true ∧ .channel ∈ allowedClasses .wheelLost ∧
      ControlSound driving ∧ HeldOutSound driving ∧ (calibrating.chan.nth 1).state = .zeroing ∧
      (calibrating.chan.nth 1).zeroRequest = some { source := 9, tag := 33 } :=
  ⟨by decide, by decide, by decide, by decide, by decide, control_driving, heldOut_driving, by decide, by decide⟩

theorem witness_PartClassAction :
    fallen.control.part.modulating = false ∧ driving.control.part.modulating = true ∧ driving.tables.mapped 1 = true ∧
      (driving.chan.nth 1).state ≠ .zeroing ∧ (calibrating.chan.nth 1).state = .zeroing ∧ driving.tables.mapped 2 = false := by decide

theorem witness_LampAndNotices :
    crowded.reporter.lamp ≠ .amber ∧ (∃ e ∈ crowded.monitor.list, e.acknowledged = false) ∧ driving.reporter.lamp = .off ∧
      Due { driving with now := 10100 } (some driving.reporter.timer) 10100 ∧ driving.port.u.tx = .sending filler ∧
      ({ driving with port := { driving.port with u := idlePort } } : State).port.u.tx = .idle ∧ driving.upstream.responses = [] := by
  decide

theorem witness_EnterState :
    ChanState.dump ≠ .vacant ∧ (driving.chan.nth 1).state = .follow ∧ (driving.chan.nth 1).state ≠ .dump ∧
      driving.tables.otherChannel 1 = some 0 ∧ driving.control.part.modulating = true ∧
      (driving.tables.axle.nth (driving.tables.axleOf 1)).pair = .yawLimit ∧ loaded.control.part.committed = false ∧
      ({ driving with downstream := { driving.downstream with
        slots := driving.downstream.slots.put 1 (some ⟨21, 1, ⟨.close, 0⟩⟩) } } : State).downstream.slots.nth 1 ≠ none := by decide

/-- The load sampled, the static load used, and the last used point's load. -/
theorem witness_Targets :
    driving.demand.load.nth (driving.tables.axleOf 0) = some 420 ∧
      (standing.tables.axle.nth (standing.tables.axleOf 0)).staticLoad = 0 ∧
      (loaded.tables.loadUsed 0).getLast?.map Prod.fst = some 700 ∧
      driving.tables.otherChannel 0 = some 1 ∧ (driving.tables.axle.nth 0).pair = .yawLimit ∧
      (({ driving with chan := driving.chan.put 1 (inControl .dump 160 0) } : State).chan.nth 1).measured = some 160 ∧
      driving.control.part.modulating = true ∧ fallen.control.part.modulating = false ∧
      targetValue driving 0 = driving.demand.target.nth 0 ∧
      targetValue { driving with chan := driving.chan.put 1 (inControl .dump 160 0) } 0 ≠ driving.demand.target.nth 0 := by decide

/-- The deadband's edges, the min pulse and the period, at a target of 216. -/
theorem witness_ValveDecision :
    let e := driving.tables.timing.nth 0
    let pulse := fun n : Nat => interpolate (driving.tables.valveUsed 0) n
    (driving.chan.nth 0).measured = some 150 ∧ (driving.chan.nth 0).settleUntil = none ∧ 205 + e.deadband < 216 ∧
      ¬ 206 + e.deadband < 216 ∧ 216 + e.deadband < 227 ∧ e.minPulse ≤ pulse 11 ∧ pulse 11 < e.period ∧ e.period ≤ pulse 100 ∧
      pulse 11 < { e with minPulse := 4 }.minPulse ∧ 2 ^ 31 ≤ ((10020 : Time) - 10118).toNat ∧
      ¬ ((10020 : Time) = 10019 ∨ 2 ^ 31 ≤ ((10020 : Time) - 10019).toNat) := by decide

theorem witness_Interpolation :
    (([(300, 600), (500, 800), (700, 1000)] : List (Nat × Nat)).map Prod.fst).Pairwise (· < ·) ∧
      ([(300, 600), (500, 800), (700, 1000)] : List (Nat × Nat)) = [] ++ (300, 600) :: (500, 800) :: [(700, 1000)] ∧
      ([(300, 600), (500, 800), (700, 1000)] : List (Nat × Nat)) = [(300, 600)] ++ (500, 800) :: (700, 1000) :: [] ∧
      ([(300, 600), (500, 800), (700, 1000)] : List (Nat × Nat)).head? = some (300, 600) ∧
      ([(300, 600), (500, 800), (700, 1000)] : List (Nat × Nat)).getLast? = some (700, 1000) := by decide

theorem witness_Boundary :
    Due driving (driving.scheduler.cycle.nth 0) 10020 ∧ driving.tables.mapped 0 = true ∧ driving.tables.axleOf 0 = 0 ∧
      (driving.scheduler.slots.nth 0).written = false ∧
      ((valveDecision 10020 0 driving).scheduler.slots.nth 0).written = true ∧ driving.port.d.tx = .sending filler ∧
      driving.tables.mapped 2 = false ∧ ({ driving with port := { driving.port with d := idlePort } } : State).port.d.tx = .idle := by
  decide

/-- A channel whose settle window ends now. -/
def settling (st : ChanState) (ref : Option Nat) (count : Nat) : Channel :=
  { inControl st 150 0 with settleUntil := some 10020, trackRef := ref, trackCount := count }

theorem witness_SettleWindowEnd :
    Due { driving with chan := driving.chan.put 0 (settling .follow (some 146) 7) } (settling .follow (some 146) 7).settleUntil 10020 ∧
      (settling .follow none 0).trackRef = none ∧ ¬ (146 + 5 ≤ 150) ∧ 145 + 5 ≤ 150 ∧ 6 + 1 < 8 ∧ 8 ≤ 7 + 1 ∧
      ¬ ((settling .hold (some 146) 7).state = .follow ∨ (settling .hold (some 146) 7).state = .reapply) := by decide

theorem witness_DeadlineExpiries :
    Due { driving with now := 10060 } (driving.wheel.nth 0).deadline1 10060 ∧
      Due { driving with now := 10180 } (driving.wheel.nth 0).deadline2 10180 ∧
      Due { driving with now := 10060 } driving.demand.deadline1 10060 ∧
      Due { driving with now := 10160 } driving.demand.deadline2 10160 ∧
      Due { driving with now := 10070 } (driving.chan.nth 0).deadline1 10070 ∧
      Due { driving with now := 10190 } (driving.chan.nth 0).deadline2 10190 ∧
      (let t := did (.lineError .d .badStopBit) (report (reportOf .roleValve (.port .d) 9020 none) driving)
       Due t (t.monitor.quiet.sel .d) 10020) ∧
      (let t := enterState 0 .dump driving
       Due { t with now := 11520 } (t.chan.nth 0).dumpTimer 11520) := by decide

theorem witness_StandstillAndSupply :
    Due { standing with reference := { standing.reference with standstill := false, timer := some 10020 } } (some 10020) 10020 ∧
      (∃ a : Axle, standing.tables.axlePresent a = true ∧ (standing.tables.aux.nth a).stopHold ≠ 0) ∧
      ({ standing.demand with doorOpen := true } : DemandUnit).stopHold = false ∧
      Due { driving with now := 10900 } (driving.demand.supply.nth 0).timer 10900 ∧ driving.control.part.modulating = true ∧
      driving.tables.axleOf 0 = 0 ∧ driving.tables.mapped 2 = false := by decide

theorem witness_CalibrationEnds :
    Due calibrating (calibrating.chan.nth 1).zeroTimer 10020 ∧ (calibrating.chan.nth 1).state = .zeroing ∧
      (calibrating.chan.nth 1).zeroAcc = some { sum := 482, count := 40, start := 9620 } ∧
      (calibrating.chan.nth 1).zeroRequest = some { source := 9, tag := 33 } ∧
      TablesInRange calibrating.variant calibrating.tables ∧ 2040 / 40 = 51 ∧ 2039 / 40 = 50 ∧
      (let idle := calibrating.modifyPort .u fun x => { x with tx := .idle }
       let reported := report (reportOf .zeroRange (.channel 1) 10020 none) idle
       idle.upstream.responses = [] ∧ reported.port.u.tx ≠ .idle ∧
         (did (.zeroTimerExpiry 1)
             (idle.modifyChan 1 fun x => { x with zeroAcc := some { sum := 2040, count := 40, start := 9620 } })).upstream.responses =
           [{ dest := 9, code := 13, tag := 33, result := .range, data := [0, 51, 0, 40] }]) :=
  ⟨by decide, by decide, by decide, by decide, inRange_bench, by decide, by decide, by decide, by decide, by decide⟩

/-- For both entries, into LOADING and into VERIFY: they have no hypotheses but those of their clauses. -/
theorem witness_EntryIntoLoading_EntryIntoVerify :
    calibrating.tables.mapped 1 = true ∧ (calibrating.chan.nth 1).state = .zeroing ∧ calibrating.port.u.tx = .sending filler := by
  decide

theorem witness_CommitAndRelease :
    Serving .commit (request 4 []) (serve 4 [] loaded) ∧ loaded.control.part = .loading ∧ fallen.control.part = .backup ∧
      fallen.reference.standstill = false ∧ standing.reference.standstill = true ∧
      (fallen.control.cause = some .demandLost ∧ fallen.demand.lost = true) ∧
      Serving .release (request 5 []) (serve 5 [] standing) ∧ verifying.control.part = .verify ∧ State.reset.control.part = .cold := by
  decide

theorem wellFormed_curve (used : List Nat) (n : Nat) (h : used ≠ []) (k : used.Pairwise (· < ·)) :
    WellFormedCurve (used.map some ++ List.replicate n none) := ⟨used, n, rfl, h, k⟩

theorem witness_CommitCheck :
    WellFormedCurve [some 300, some 500, none] ∧ commitCheck bench = none ∧ (∀ x ∈ [none, none], x = (none : Option Nat)) ∧
      [some 300, none, some 200] = ([300].map some ++ List.replicate (0 + 1) none ++ some 200 :: [] : List (Option Nat)) ∧
      [some 300, some 300] = (([] ++ [300]).map some ++ some 300 :: [] : List (Option Nat)) ∧ 300 ≤ 300 ∧
      (let t := { bench with
         timing := bench.timing.put 0 { bench.timing.nth 0 with minPulse := 12 }
         slipBands := bench.slipBands.put 1 { bench.slipBands.nth 1 with reapply := 160 } }
       commitCheck t = some { table := 5, index := 0, reason := 4 } ∧ Fails t { table := 9, index := 1, reason := 13 } ∧
         examined { table := 5, index := 0, reason := 4 } < examined { table := 9, index := 1, reason := 13 }) :=
  ⟨wellFormed_curve [300, 500] 1 (by decide) (by decide), by decide, by decide, by decide, by decide, by decide, by decide,
    .inr (.inr (.inl ⟨0, by decide, .inr (.inr (.inr (.inr (.inr (.inr (.inr
      ⟨1, by decide, by decide, by decide, by decide⟩))))))⟩)), by decide⟩

theorem control_verifying : ControlSound verifying where
  commit := by decide
  states := by decide
  zeroing := by decide
  dumping := by decide
  latched := by decide
  cycles := by decide
  deadlines := by decide
  waiting := fun _ => (by decide : ∀ c : Chan, ∀ x ∈ verifying.downstream.slots.nth c, x.command = yieldZero)
  targets := by decide
  checked := by decide

theorem witness_CommitCheckCompletes :
    verifying.control.part = .verify ∧
      verifying.control.commit = some { origin := .loading, request := { source := 9, tag := 40 } } ∧
      commitCheck verifying.tables = none ∧ TablesInRange verifying.variant verifying.tables ∧ ControlSound verifying ∧
      (∀ c : Chan, verifying.tables.mapped c = true → verifying.monitor.node.nth c = false) ∧
      (∀ c : Chan, (verifying.chan.nth c).stale = true) ∧ HeldOutSound verifying ∧
      (let s := { verifying with monitor := { verifying.monitor with node := verifying.monitor.node.put 1 true } }
       s.tables.mapped 1 = true ∧ s.monitor.node.nth 1 = true ∧ (s.tables.policy.nth 13).cls = .channel ∧ HeldOutSound s) ∧
      commitCheck { bench with roles := Row.fill 4 0 } = some { table := 2, index := 0, reason := 1 } :=
  ⟨by decide, by decide, by decide, inRange_bench, control_verifying, by decide, by decide,
    ⟨by decide, by decide, by decide, by decide⟩,
    ⟨by decide, by decide, by decide, by decide, by decide, by decide, by decide⟩, by decide⟩

theorem witness_AnswerPlaced :
    driving.port.u.tx = .sending filler ∧ ({ driving with port := { driving.port with u := idlePort } } : State).port.u.tx = .idle ∧
      driving.upstream.responses = [] := by decide

theorem witness_UnknownRequests :
    Serving .unknown (request 0 []) (serve 0 [] driving) ∧ Serving .unknown (request 14 []) (serve 14 [] driving) ∧
      Serving .unknown (request 255 []) (serve 255 [] driving) ∧ Serving .unknown (request 1 []) (serve 1 [] driving) ∧
      Serving .unknown (request 2 [4]) (serve 2 [4] driving) := by decide

theorem witness_TableReads :
    Serving .dirRead (request 1 [11]) (serve 1 [11] driving) ∧ Serving .dirRead (request 1 [12]) (serve 1 [12] driving) ∧
      Serving .tableRead (request 3 [10, 47]) (serve 3 [10, 47] driving) ∧ EntryExists .hg6 .valveCurve 47 (request 3 [10, 47]) ∧
      (∀ id i, ¬ EntryExists .hg6 id i (request 3 [12, 0])) := by
  refine ⟨by decide, by decide, by decide, by decide, ?_⟩
  rintro (_ | _) i ⟨h, -⟩ <;> revert h <;> decide

theorem witness_StateAndFaultReads :
    Serving .partRead (request 6 []) (serve 6 [] driving) ∧ Serving .channelRead (request 7 [5, 1]) (serve 7 [5, 1] driving) ∧
      Serving .channelRead (request 7 [6, 0]) (serve 7 [6, 0] driving) ∧ Serving .channelRead (request 7 [0, 2]) (serve 7 [0, 2] driving) ∧
      Serving .faultRead (request 8 [15]) (serve 8 [15] crowded) ∧
      crowded.monitor.list[15]? = some (entry .supplyLow (.axle 0) false) ∧ driving.monitor.list.length ≤ 0 ∧
      Serving .firstRead (request 9 []) (serve 9 [] driving) ∧ driving.monitor.first = none ∧
      (report (reportOf .linkCrc (.port .u) 10020 none) driving).monitor.first ≠ none ∧
      driving.reference.slip.nth 0 ≤ 1000 ∧ driving.demand.target.nth 0 ≤ 1000 ∧
      (driving.chan.nth 0).settleUntil = none ∧ ((10020 : Time) - 10020).toNat < 2 ^ 31 ∧
      2 ^ 31 ≤ ((10020 : Time) - 10021).toNat := by decide

theorem listSound_crowded : FaultListSound crowded.monitor.list := ⟨by decide, by decide, by decide⟩

theorem witness_FaultClear :
    Serving .faultClear (request 10 [9, 18, 1]) (serve 10 [9, 18, 1] crowded) ∧ FaultListSound crowded.monitor.list ∧
      crowded.monitor.list = [entry .linkCrc (.port .u) false] ++ entry .wheelLost (.channel 2) true :: sixteen.drop 2 ∧
      (entry .wheelLost (.channel 2) true).kind.number = 9 ∧ LocusExists crowded.variant (.channel 2) ∧
      conditionPresent crowded .wheelLost (.channel 2) = false ∧
      conditionPresent { crowded with wheel := crowded.wheel.put 2 { speedAt 0 with lost := true } } .wheelLost (.channel 2) = true ∧
      (∀ e ∈ driving.monitor.list, ¬ (e.kind.number = 9 ∧ locusCode e.locus = 18)) :=
  ⟨by decide, listSound_crowded, by decide, by decide, (by decide : (2 : Fin 6).val < 6), by decide, by decide, by decide⟩

theorem witness_FirstClear :
    Serving .firstClear (request 11 []) (serve 11 [] driving) ∧
      (∀ e ∈ driving.monitor.list, ¬ (e.kind = .linkCrc ∧ e.locus = .port .u)) ∧ driving.monitor.list.length < 16 ∧
      ¬ ((driving.tables.policyOf .linkCrc).cls = .noted ∧ (driving.tables.policyOf .linkCrc).mask = true) := by decide

theorem witness_TableWriteRefused :
    Serving .tableWrite (request 2 [0, 0]) (serve 2 [0, 0] verifying) ∧ verifying.control.part = .verify ∧
      driving.control.part.committed = true ∧ driving.reference.standstill = false ∧ loaded.control.part = .loading ∧
      standing.control.part.committed = true ∧ standing.reference.standstill = true ∧
      EntryExists .hg6 .directory 11 (request 2 [0, 11]) ∧ EntryExists .hg6 .global 7 (request 2 [1, 7, 1]) ∧
      [(1 : Byte)].length ≠ entryLength .global ∧ EntryExists .hg6 .timing 1 (request 2 [5, 1, 10, 3, 0, 80, 10, 6, 5, 220]) := by decide

theorem witness_TableWriteRefused_order :
    ¬ ReferencesAllow .hg6 bench .timing 1 [10, 3, 0, 80, 10, 6, 5, 220] ∧ ReferencesAllow .hg6 bench .timing 0 [10, 3, 0, 80, 10, 6, 5, 220] ∧
      (∀ id i, ¬ EntryExists .hg6 id i (request 2 [1, 8])) := by
  refine ⟨?_, ?_, ?_⟩
  · rintro ⟨a, h, -, p⟩
    have : a = 1 := Fin.ext h
    subst this
    exact absurd p (by decide)
  · exact ⟨0, rfl, by decide, by decide⟩
  · rintro (_ | _) i ⟨h, k, l⟩ <;> first | exact absurd h (by decide) | (subst k; exact absurd l (by decide))

theorem witness_TableWriteAccepted :
    Serving .tableWrite (request 2 [2, 0, 5]) (serve 2 [2, 0, 5] loaded) ∧ EntryExists .hg6 .roles 0 (request 2 [2, 0, 5]) ∧
      ((request 2 [2, 0, 5]).args.drop 2).length = entryLength .roles ∧ ReferencesAllow .hg6 bench .roles 0 [5] ∧
      loaded.control.part = .loading ∧
      Serving .tableWrite (request 2 [4, 2, 128, 2, 88, 2, 138, 0, 0, 21]) (serve 2 [4, 2, 128, 2, 88, 2, 138, 0, 0, 21] standing) ∧
      EntryExists .hg6 .axle 2 (request 2 [4, 2, 128, 2, 88, 2, 138, 0, 0, 21]) ∧
      ReferencesAllow .hg6 bench .axle 2 [128, 2, 88, 2, 138, 0, 0, 21] :=
  ⟨by decide, by decide, by decide, trivial, by decide, by decide, by decide, fun h => absurd h (by decide)⟩

theorem witness_WheelMapWritten :
    Serving .tableWrite (request 2 [7, 1, 0xC4, 85, 86, 4, 80, 12, 128]) (serve 2 [7, 1, 0xC4, 85, 86, 4, 80, 12, 128] loaded) ∧
      EntryExists .hg6 .wheelMap (1 : Chan).val (request 2 [7, 1, 0xC4, 85, 86, 4, 80, 12, 128]) ∧
      [(0xC4 : Byte), 85, 86, 4, 80, 12, 128].length = 7 ∧ ReferencesAllow .hg6 bench .wheelMap 1 [0xC4, 85, 86, 4, 80, 12, 128] ∧
      loaded.control.part = .loading ∧ loaded.port.d.tx = .sending filler :=
  ⟨by decide, by decide, by decide, fun _ => ⟨0, by decide, by decide, by decide⟩, by decide, by decide⟩

theorem witness_StoredEntries :
    TableId.policy ≠ .directory ∧ [(2 : Byte), 1].length = entryLength .policy ∧ 15 < entryCount .hg6 .policy ∧
      storedEntry .hg6 .policy 15 [2, 1] = some (.policy { cls := .noted, mask := true }) ∧
      [(2 : Byte)].length ≠ entryLength .policy ∧
      [(1000, 8000), (5000, 15000), (500, 5000), (20, 200), (20, 200), (20, 200), (50, 1000), (100, 2000)][7]? = some (100, 2000) ∧
      storedEntry .hg6 .global 7 [0, 99] = some (.global 100) ∧ storedEntry .hg4 .roles 3 [64] = some (.roles 63) := by decide

/-- A channel with a latch set, in SERVICE become DEGRADED by it. -/
def latched : State := report (reportOf .pressureTrack (.channel 1) 10020 none) driving

theorem witness_RestoreChannel :
    Serving .restoreChannel (request 12 [6]) (serve 12 [6] driving) ∧ driving.variant.channels ≤ 6 ∧
      Serving .restoreChannel (request 12 [1]) (serve 12 [1] latched) ∧ (1 : Chan).val < latched.variant.channels ∧
      remaining latched 1 ≠ (latched.chan.nth 1).latch ∧ (remaining latched 1).isEmpty = true ∧ latched.tables.mapped 1 = true ∧
      (latched.chan.nth 1).state = .yielded ∧ latched.control.part.modulating = true ∧ (latched.wheel.nth 1).usable = true ∧
      (latched.chan.nth 1).usable = true ∧ remaining driving 1 = (driving.chan.nth 1).latch := by decide

theorem witness_ZeroRequest :
    Serving .zero (request 13 [6]) (serve 13 [6] standing) ∧ standing.variant.channels ≤ 6 ∧
      Serving .zero (request 13 [1]) (serve 13 [1] standing) ∧ standing.control.part.committed = true ∧
      (standing.chan.nth 1).state = .follow ∧ (standing.chan.nth 1).latch.isEmpty = true ∧ standing.reference.standstill = true ∧
      standing.demand.demand = some 0 ∧ driving.reference.standstill = false ∧ driving.demand.demand = some 500 ∧
      (calibrating.chan.nth 1).state = .zeroing ∧ (latched.chan.nth 1).latch.isEmpty = false ∧ loaded.control.part.committed = false ∧
      (standing.chan.nth 2).state ≠ .zeroing := by decide

/-- Demands of 498 and 500, and a pair 61 apart, the first that disagrees. -/
theorem witness_DemandAccepted :
    Sorted .u (lastByte (originate 0 1 5 10 [1, 242, 1, 244, 1])) (originate 0 1 5 10 [1, 242, 1, 244, 1])
        (arriving .u (originate 0 1 5 10 [1, 242, 1, 244, 1]) driving) ∧
      kindOf (originate 0 1 5 10 [1, 242, 1, 244, 1]).header.kind = .demand ∧ driving.tables.roles.nth 0 = 5 ∧
      ¬ 60 < max 440 500 - min 440 500 ∧ 60 < max 439 500 - min 439 500 ∧ loaded.control.part.committed = false ∧
      driving.control.part.committed = true ∧ driving.control.part.modulating = true :=
  ⟨sorted_arriving _ _ _ (by decide) (by decide) (by decide) (by decide), by decide⟩

/-- Demands of 20 and of 19 while channel 1 calibrates. -/
theorem witness_DemandAccepted_calibrating :
    Sorted .u (lastByte (originate 0 1 5 10 [0, 20, 0, 18, 1])) (originate 0 1 5 10 [0, 20, 0, 18, 1])
        (arriving .u (originate 0 1 5 10 [0, 20, 0, 18, 1]) calibrating) ∧
      Sorted .u (lastByte (originate 0 1 5 10 [0, 19, 0, 18, 1])) (originate 0 1 5 10 [0, 19, 0, 18, 1])
        (arriving .u (originate 0 1 5 10 [0, 19, 0, 18, 1]) calibrating) ∧
      (calibrating.chan.nth 1).state = .zeroing ∧ calibrating.port.u.tx = .sending filler :=
  ⟨sorted_arriving _ _ _ (by decide) (by decide) (by decide) (by decide),
    sorted_arriving _ _ _ (by decide) (by decide) (by decide) (by decide), by decide⟩

theorem witness_OtherCopies :
    Sorted .u (lastByte (originate 0 5 6 0 [1])) (originate 0 5 6 0 [1]) (arriving .u (originate 0 5 6 0 [1]) standing) ∧
      standing.tables.roles.nth 1 = 6 ∧ (∃ a : Axle, standing.tables.axlePresent a = true ∧ (standing.tables.aux.nth a).stopHold ≠ 0) ∧
      Sorted .d (lastByte (originate 0 4 21 0 [0, 1, 164])) (originate 0 4 21 0 [0, 1, 164])
        (arriving .d (originate 0 4 21 0 [0, 1, 164]) driving) ∧
      LoadMatches .hg6 bench 21 0 ∧
      Sorted .d (lastByte (originate 0 7 21 0 [1, 3])) (originate 0 7 21 0 [1, 3]) (arriving .d (originate 0 7 21 0 [1, 3]) driving) ∧
      (∀ o : Chan, NodeMatches bench 21 1 3 o ↔ o = 1) ∧ (∀ o : Chan, NodeMatches bench 21 1 0 o ↔ o = 1) :=
  ⟨sorted_arriving _ _ _ (by decide) (by decide) (by decide) (by decide), by decide, by decide,
    sorted_arriving _ _ _ (by decide) (by decide) (by decide) (by decide), by decide,
    sorted_arriving _ _ _ (by decide) (by decide) (by decide) (by decide), by decide, by decide⟩

/-- The sample of chapter 4, and the gaps one millisecond short of a capture turn's span and at it (262,144 µs). -/
theorem witness_WheelSamples :
    Sorted .d (lastByte wheelFrame) wheelFrame (arriving .d wheelFrame driving) ∧
      kindOf wheelFrame.header.kind = .wheelSample ∧ (∀ o : Chan, WheelMatches bench 21 1 o ↔ o = 1) ∧
      (driving.wheel.nth 1).base = some { count := 212, capture := 63000 } ∧ (loaded.wheel.nth 1).base = none ∧
      ¬ (65536 * 4 ≤ ((10262 : Time) - 10000).toNat * 1000) ∧ 65536 * 4 ≤ ((10263 : Time) - 10000).toNat * 1000 ∧
      ((219 : Byte) - 212).toNat ≠ 0 ∧ ((212 : Byte) - 212).toNat = 0 ∧ (2464 + 65536 - 63000) % 65536 ≠ 0 ∧
      (63000 + 65536 - 63000) % 65536 = 0 ∧ (driving.wheel.nth 1).lastEdge = some 10000 ∧
      (driving.wheel.nth 1).lastSample = some 10000 ∧ loaded.control.part.committed = false :=
  ⟨sorted_arriving _ _ _ (by decide) (by decide) (by decide) (by decide), by decide⟩

theorem witness_SpeedUpdates :
    (∀ o : Chan, (driving.chan.nth o).state ≠ .zeroing) ∧ (calibrating.chan.nth 1).state = .zeroing ∧
      calibrating.reference.vref = some 0 ∧ (speedUpdate 1 10020 calibrating).reference.vref ≠ some 0 ∧
      Admitted driving driving.wheel 0 14450 ∧
      ¬ Admitted driving driving.wheel 2 0 ∧ driving.reference.vref = some 14600 ∧ driving.reference.lastUpdate = some 10012 ∧
      (driving.wheel.nth 1).speed = some 14300 ∧ (driving.tables.timing.nth 0).deadband ≤ driving.demand.target.nth 1 ∧
      (driving.tables.bands 0).filter (fun z => z.x.isSome) =
        (driving.tables.bands 0).take 2 ++ { x := some 8000, release := 140, reapply := 60, releaseDecel := 9000 } :: [] ∧
      (speedUpdate 1 10020 standing).reference.vref ≠ some 0 ∧ standing.reference.vref = some 0 := by decide

theorem witness_PressureSamples :
    Sorted .d (lastByte (originate 3 3 21 0 [0, 0, 162, 2, 88])) (originate 3 3 21 0 [0, 0, 162, 2, 88])
        (arriving .d (originate 3 3 21 0 [0, 0, 162, 2, 88]) driving) ∧
      kindOf (originate 3 3 21 0 [0, 0, 162, 2, 88]).header.kind = .pressureSample ∧
      (∀ o : Chan, ValveMatches bench 21 0 o ↔ o = 0) ∧ loaded.control.part.committed = false ∧
      driving.control.part.committed = true ∧
      driving.control.part.modulating = true ∧ (bench.axle.nth (bench.axleOf 0)).pair = .yawLimit ∧
      bench.otherChannel 0 = some 1 ∧ (driving.chan.nth 1).state = .follow ∧ (driving.chan.nth 1).usable = true ∧
      ¬ 550 < (bench.aux.nth 0).supplyWarn ∧ 549 < (bench.aux.nth 0).supplyWarn :=
  ⟨sorted_arriving _ _ _ (by decide) (by decide) (by decide) (by decide), by decide⟩

/-- Two channels of one sensor, which LOADING admits; and node 21's channel 0 by its sensor and channel 1 by its valve. -/
theorem witness_SeveralChannels :
    Sorted .d (lastByte wheelFrame) wheelFrame (arriving .d wheelFrame loaded) ∧ loaded.control.part.committed = false ∧
      wheelFrame.payload = 1 :: [219, 9, 160] ∧
      (let twins := { bench with wheelMap := bench.wheelMap.put 0 (wheelEntry .left 1) }
       WheelMatches twins 21 1 0 ∧ WheelMatches twins 21 1 1) ∧
      (let left : WheelEntry := { wheelEntry .left 0 with valveIndex := 2 }
       let right : WheelEntry := { wheelEntry .right 1 with valveIndex := 0 }
       let crossed := { bench with wheelMap := (bench.wheelMap.put 0 left).put 1 right }
       NodeMatches crossed 21 0 0 0 ∧ NodeMatches crossed 21 0 0 1) :=
  ⟨sorted_arriving _ _ _ (by decide) (by decide) (by decide) (by decide), by decide⟩

theorem pulses_driving : PulsesLimited driving := by
  refine ⟨fun c x h => ?_, fun _ c => ?_⟩
  · rw [(by decide : ∀ c : Chan, driving.downstream.slots.nth c = none) c] at h
    cases h
  · rw [(by decide : ∀ c : Chan, driving.scheduler.slots.nth c = slotsInitial) c]
    exact ⟨rfl, rfl⟩

/-- A state in SERVICE, with two channels in control, meets every property that steps keep; a step from it answers. -/
theorem witness_invariants :
    TablesInRange driving.variant driving.tables ∧ ReferencesHold driving.variant driving.tables ∧
      FaultListSound driving.monitor.list ∧ LampSound driving ∧ QueuesBounded driving ∧ PortsServed driving ∧
      PlacesCounted driving ∧ ControlSound driving ∧ HeldOutSound driving ∧ FillsGuarded driving ∧ PulsesLimited driving ∧
      ResponderServes driving ∧ ValuesInRange driving ∧ TargetsBounded driving ∧
      ReferenceSound driving.reference ∧ ConditionsTrue driving ∧
      step { driving with pending := [.cycleTimerExpiry 0] } = .next (did (.cycleTimerExpiry 0) driving) := by
  refine ⟨inRange_bench, by decide, ⟨by decide, by decide, by decide⟩, ⟨by decide, by decide, by decide⟩, by decide, ?_, by decide,
    control_driving, heldOut_driving, ?_, pulses_driving, by decide, ?_, by decide, ⟨by decide, by decide, by decide, by decide⟩, by decide, rfl⟩
  · exact ⟨by decide, by decide, by decide, by decide⟩
  · exact ⟨(by decide : ∀ c : Chan, ∀ x ∈ driving.downstream.slots.nth c, x.command.mode = .fill →
      driving.control.part.modulating = true ∧ ((driving.chan.nth c).state = .follow ∨ (driving.chan.nth c).state = .reapply)),
      by decide⟩
  · exact ⟨(by decide : ∀ c : Chan, ∀ v ∈ (driving.wheel.nth c).speed, v ≤ 40000), by decide,
      (by decide : ∀ v ∈ driving.reference.vref, v ≤ 40000), by decide,
      (by decide : ∀ c : Chan, ∀ p ∈ (driving.chan.nth c).measured, p ≤ 1500), by decide, by decide,
      (by decide : ∀ c : Chan, ∀ b ∈ (driving.wheel.nth c).base, b.capture < 2 ^ widthBits (driving.tables.wheelMap.nth c).width)⟩

/-- The same in VERIFY, and with a fault list that is full. -/
theorem witness_invariants_verify : ControlSound verifying ∧ PlacesCounted verifying ∧ HeldOutSound verifying ∧
    FaultListSound crowded.monitor.list :=
  ⟨control_verifying, by decide, ⟨by decide, by decide, by decide, by decide⟩, listSound_crowded⟩

end Sys2Proof.Tests
end

section
/-! PROOFS. Headers, checks and whole frames as bytes: what is written is read back (R1). -/

namespace Sys2Proof.Machine

open Sys2Proof

/-! ## Headers, checks and whole frames (R1) -/

/-- A check is the two bytes it is sent as, high byte first. -/
theorem check_bytes (c : BitVec 16) : c.extractLsb' 8 8 ++ c.extractLsb' 0 8 = c :=
  BitVec.extractLsb'_append_extractLsb' (w := 8) (len := 8)

/-- A word of 24 bits is its five header fields in a row. -/
theorem headerFields_eq (w : BitVec 24) :
    w.extractLsb' 18 6 ++ w.extractLsb' 14 4 ++ w.extractLsb' 8 6 ++ w.extractLsb' 4 4 ++ w.extractLsb' 0 4 = w := by
  have two : w.extractLsb' 18 6 ++ w.extractLsb' 14 4 = w.extractLsb' 14 10 :=
    BitVec.extractLsb'_append_extractLsb'_eq_extractLsb' rfl
  have three : w.extractLsb' 14 10 ++ w.extractLsb' 8 6 = w.extractLsb' 8 16 :=
    BitVec.extractLsb'_append_extractLsb'_eq_extractLsb' rfl
  have four : w.extractLsb' 8 16 ++ w.extractLsb' 4 4 = w.extractLsb' 4 20 :=
    BitVec.extractLsb'_append_extractLsb'_eq_extractLsb' rfl
  rw [two, three, four]
  exact BitVec.extractLsb'_append_extractLsb' (w := 20) (len := 4)

/-- The 24 bits of the header that three bytes spell are those bytes in a row. -/
theorem headerBits_headerOf (b0 b1 b2 : Byte) : headerBits (headerOf b0 b1 b2) = b0 ++ b1 ++ b2 :=
  headerFields_eq (b0 ++ b1 ++ b2)

/-- Three bytes read as a header are written as the same three bytes. -/
theorem headerBytes_headerOf (b0 b1 b2 : Byte) : headerBytes (headerOf b0 b1 b2) = [b0, b1, b2] := by
  have high : (b0 ++ b1 ++ b2 : BitVec 24).extractLsb' 16 8 = b0 :=
    (BitVec.extractLsb'_append_eq_of_le (by decide)).trans BitVec.extractLsb'_append_eq_left
  have middle : (b0 ++ b1 ++ b2 : BitVec 24).extractLsb' 8 8 = b1 :=
    (BitVec.extractLsb'_append_eq_of_le (by decide)).trans BitVec.extractLsb'_append_eq_right
  have low : (b0 ++ b1 ++ b2 : BitVec 24).extractLsb' 0 8 = b2 := BitVec.extractLsb'_append_eq_right
  simp only [headerBytes, headerBits_headerOf, high, middle, low]

/-- Two words joined in a row tell both words. -/
theorem append_injective {m n : Nat} {x x' : BitVec m} {y y' : BitVec n} (h : x ++ y = x' ++ y') : x = x' ∧ y = y' := by
  have left := congrArg (BitVec.extractLsb' n m) h
  have right := congrArg (BitVec.extractLsb' 0 n) h
  rw [BitVec.extractLsb'_append_eq_left, BitVec.extractLsb'_append_eq_left] at left
  rw [BitVec.extractLsb'_append_eq_right, BitVec.extractLsb'_append_eq_right] at right
  exact ⟨left, right⟩

/-- Headers with the same 24 bits are the same. -/
theorem headerBits_injective {h k : Header} (e : headerBits h = headerBits k) : h = k := by
  obtain ⟨e, length⟩ := append_injective e
  obtain ⟨e, sequence⟩ := append_injective e
  obtain ⟨e, source⟩ := append_injective e
  obtain ⟨dest, kind⟩ := append_injective e
  cases h
  cases k
  simp_all

/-- A header is read back from its own bytes. -/
theorem exists_headerBytes (h : Header) : ∃ b0 b1 b2, headerBytes h = [b0, b1, b2] ∧ headerOf b0 b1 b2 = h := by
  refine ⟨_, _, _, rfl, headerBits_injective ?_⟩
  rw [headerBits_headerOf]
  have high : (headerBits h).extractLsb' 16 8 ++ (headerBits h).extractLsb' 8 8 = (headerBits h).extractLsb' 8 16 :=
    BitVec.extractLsb'_append_extractLsb'_eq_extractLsb' rfl
  rw [high]
  exact BitVec.extractLsb'_append_extractLsb' (w := 16) (len := 8)

/-- The length field stands in the low half of header byte 2. -/
@[simp] theorem headerOf_length (b0 b1 b2 : Byte) : (headerOf b0 b1 b2).length = b2.extractLsb' 0 4 :=
  BitVec.extractLsb'_append_eq_of_add_le (by decide)

end Sys2Proof.Machine
end

section
/-! PROOFS. The ports: the receiver on bytes, line idle and line errors, the arrival of a frame, a frame given byte by byte (R8 to
R13). -/

namespace Sys2Proof.Machine

open Sys2Proof

/-! ## The receiver (R8, R9, R10) -/

/-- BYTE_RECEIVED is the taking of the byte. -/
theorem exec_byteReceived (p : Port) (b : Byte) (s : State) : exec (.byteReceived p b) s = .next (takeByte p b s) := rfl

/-- A receiver put where it is: nothing changes. -/
theorem setReceiver_self {p : Port} {r : Receiver} {s : State} (h : (s.port.sel p).rx = r) : setReceiver p r s = s := by
  subst h
  cases p <;> rfl

/-- Of two receiver states put in turn the second stands. -/
theorem setReceiver_setReceiver (p : Port) (r r' : Receiver) (s : State) :
    setReceiver p r (setReceiver p r' s) = setReceiver p r s := by
  cases p <;> rfl

/-- After any movement of the receiver, a frame's end leaves it as from where it started. -/
theorem received_setReceiver (p : Port) (r : Receiver) (s : State) : (setReceiver p r s).received p = s.received p := by
  cases p <;> rfl

section Receiver

variable {p : Port} {b : Byte} {s : State}

/-- WAIT_IDLE and DISCARD ignore bytes. -/
theorem takeByte_ignored (h : (s.port.sel p).rx = .waitIdle ∨ (s.port.sel p).rx = .discard) : takeByte p b s = s := by
  rcases h with h | h <;> simp only [takeByte, h]

theorem takeByte_ready (h : (s.port.sel p).rx = .ready false) : takeByte p b s = setReceiver p (.header b none) s := by
  simp only [takeByte, h]

theorem takeByte_afterFrame (h : (s.port.sel p).rx = .ready true) : takeByte p b s = fragment p s := by
  simp only [takeByte, h]

theorem takeByte_second {b0 : Byte} (h : (s.port.sel p).rx = .header b0 none) :
    takeByte p b s = setReceiver p (.header b0 (some b)) s := by
  simp only [takeByte, h]

theorem takeByte_third {b0 b1 : Byte} (h : (s.port.sel p).rx = .header b0 (some b1)) :
    takeByte p b s = thirdHeaderByte p (headerOf b0 b1 b) s := by
  simp only [takeByte, h]

/-- A byte of the body that is not its last one is kept. -/
theorem takeByte_body {h : Header} {rest : List Byte} (hr : (s.port.sel p).rx = .body h rest)
    (hl : rest.length + 1 < h.length.toNat + 2) : takeByte p b s = setReceiver p (.body h (rest ++ [b])) s := by
  have unfinished : ¬ (rest ++ [b]).length = bodyLength h := by
    simp only [List.length_append, List.length_singleton, bodyLength]
    omega
  simp only [takeByte, hr, unfinished, if_false]

/-- The body's last byte completes the frame, under either name (log 6). -/
theorem takeByte_last {h : Header} {rest : List Byte} (hr : (s.port.sel p).rx = .body h rest)
    (hl : rest.length + 1 = h.length.toNat + 2) : takeByte p b s = completeFrame p h (rest ++ [b]) s := by
  have full : (rest ++ [b]).length = bodyLength h := by simpa [bodyLength] using hl
  simp only [takeByte, hr, full, if_true]

/-- A third header byte with a length of 0 to 12 opens the body. -/
theorem thirdHeaderByte_short {h : Header} (hl : h.length.toNat ≤ 12) : thirdHeaderByte p h s = setReceiver p (.body h []) s :=
  if_neg (by omega)

/-- A third header byte with a length of 13 to 15 is reported, and the frame discarded. -/
theorem thirdHeaderByte_long {h : Header} (hl : 13 ≤ h.length.toNat) :
    thirdHeaderByte p h s = report (reportOf .linkFormat (.port p) s.now (some h)) (setReceiver p .discard s) :=
  if_pos hl

/-- BAD_LENGTH as the third header byte. -/
theorem exec_badLength_third {b0 b1 : Byte} (h : (s.port.sel p).rx = .header b0 (some b1))
    (hl : 13 ≤ (b.extractLsb' 0 4).toNat) : exec (.badLength p b) s = .next (thirdHeaderByte p (headerOf b0 b1 b) s) := by
  simp only [exec, execBadLength, h, headerOf_length, hl, if_true]

/-- FRAME_ARRIVAL as the body's last byte. -/
theorem exec_frameArrival_last {h : Header} {rest : List Byte} (hr : (s.port.sel p).rx = .body h rest)
    (hl : rest.length + 1 = h.length.toNat + 2) : exec (.frameArrival p b) s = .next (completeFrame p h (rest ++ [b]) s) := by
  simp only [exec, execFrameArrival, hr, bodyLength, hl, if_true]

/-- Line idle outside a frame leads to READY. -/
theorem exec_receiverIdle_outside
    (h : (s.port.sel p).rx = .waitIdle ∨ (s.port.sel p).rx = .discard ∨ ∃ a, (s.port.sel p).rx = .ready a) :
    exec (.receiverIdle p) s = .next (setReceiver p (.ready false) s) := by
  rcases h with h | h | ⟨a, h⟩ <;> simp only [exec, execReceiverIdle, h]

/-- Line idle inside a frame is a truncation (log 6). -/
theorem exec_receiverIdle_inside
    (h : (∃ b0 b1, (s.port.sel p).rx = .header b0 b1) ∨ ∃ h rest, (s.port.sel p).rx = .body h rest) :
    exec (.receiverIdle p) s = exec (.lineError p .truncated) s := by
  rcases h with ⟨b0, b1, h⟩ | ⟨k, rest, h⟩ <;> simp only [exec, execReceiverIdle, execLineError, h]

end Receiver

/-- Settles O8, state by state of the receiver. -/
theorem receiverStates : Obligations.ReceiverStates := by
  intro p b s
  refine ⟨fun h => ⟨?_, ?_⟩, fun a h => ?_, fun h => ?_, fun b0 h => ?_, fun b0 b1 h hl => ?_, fun h rest hr hl => ?_,
    fun r => rfl, fun h => ?_, fun b0 b1 h => ?_, fun h rest hr => ?_, fun b0 b1 h hl => ?_, fun h rest hr hl => ?_⟩
  · rw [exec_byteReceived, takeByte_ignored h]
  · exact exec_receiverIdle_outside (h.imp_right .inl)
  · exact exec_receiverIdle_outside (.inr (.inr ⟨a, h⟩))
  · rw [exec_byteReceived, takeByte_ready h]
  · rw [exec_byteReceived, takeByte_second h]
  · refine ⟨headerOf b0 b1 b, headerBytes_headerOf b0 b1 b, ?_⟩
    rw [exec_byteReceived, takeByte_third h, thirdHeaderByte_short (by rwa [headerOf_length])]
  · rw [exec_byteReceived, takeByte_body hr hl]
  · rw [exec_byteReceived, takeByte_afterFrame h]
    rfl
  · exact exec_receiverIdle_inside (.inl ⟨b0, b1, h⟩)
  · exact exec_receiverIdle_inside (.inr ⟨h, rest, hr⟩)
  · rw [exec_byteReceived, takeByte_third h, exec_badLength_third h hl]
  · rw [exec_byteReceived, takeByte_last hr hl, exec_frameArrival_last hr hl]

/-- Settles O10, by the kind of the error and the receiver's state. -/
theorem lineErrors : Obligations.LineErrors := by
  intro p s
  refine ⟨fun a h => ?_, fun b0 b1 h => ⟨?_, ?_⟩, fun k rest h => ⟨?_, ?_⟩, fun h => ?_⟩ <;>
    simp only [exec, execLineError, badStop, truncate, fragment, h] <;> rfl

/-- Settles O11: the third header byte decides, and DISCARD then ignores bytes. -/
theorem badLength : Obligations.BadLength := by
  intro p b0 b1 b s
  refine ⟨fun h hl => ⟨headerOf b0 b1 b, headerBytes_headerOf b0 b1 b, ?_⟩, fun h => ⟨?_, ?_⟩⟩
  · rw [exec_badLength_third h hl, thirdHeaderByte_long (by rwa [headerOf_length])]
  · rw [exec_byteReceived, takeByte_ignored (.inr h)]
  · exact exec_receiverIdle_outside (.inr (.inl h))

/-! ## The arrival of a whole frame (R8, R11, R13) -/

/-- What the end of a frame at a port leaves as it was. -/
@[simp] theorem received_keeps (s : State) (p : Port) :
    (s.received p).tables = s.tables ∧ (s.received p).now = s.now ∧ (s.received p).address = s.address ∧
      (s.received p).variant = s.variant ∧ (s.received p).demand = s.demand ∧ (s.received p).control = s.control ∧
      (s.received p).reference = s.reference ∧ (s.received p).monitor = s.monitor :=
  ⟨rfl, rfl, rfl, rfl, rfl, rfl, rfl, rfl⟩

/-- A complete body is read as the frame whose payload and check it holds. -/
theorem frameOfBody_eq {f : Frame} (size : f.payload.length = f.header.length.toNat) :
    frameOfBody f.header (f.payload ++ [f.check.extractLsb' 8 8, f.check.extractLsb' 0 8]) = f := by
  have payload : (f.payload ++ [f.check.extractLsb' 8 8, f.check.extractLsb' 0 8]).take f.payload.length = f.payload := by
    simp
  obtain ⟨header, bytes, check⟩ := f
  simp only [frameOfBody, ← size, payload, Frame.mk.injEq, true_and]
  simpa using check_bytes check

/-- The number of bytes before the last one of an arriving frame. -/
theorem length_of_arrives {f : Frame} {rest : List Byte} {b : Byte} (size : f.payload.length = f.header.length.toNat)
    (h : rest ++ [b] = f.payload ++ [f.check.extractLsb' 8 8, f.check.extractLsb' 0 8]) :
    rest.length + 1 = f.header.length.toNat + 2 := by
  have := congrArg List.length h
  simpa [size] using this

section Arrival

variable {p : Port} {b : Byte} {f : Frame} {s : State}

/-- FRAME_ARRIVAL of an arriving frame's last byte applies the arrival tests to that frame. -/
theorem exec_frameArrival (h : Arrives p b f s) : exec (.frameArrival p b) s = .next (arrive p f (s.received p)) := by
  obtain ⟨size, rest, hr, bytes⟩ := h
  rw [exec_frameArrival_last hr (length_of_arrives size bytes), bytes, completeFrame, frameOfBody_eq size]
  rfl

/-- BYTE_RECEIVED of that byte does the same (log 6). -/
theorem takeByte_of_arrives (h : Arrives p b f s) : takeByte p b s = arrive p f (s.received p) := by
  obtain ⟨size, rest, hr, bytes⟩ := h
  rw [takeByte_last hr (length_of_arrives size bytes), bytes, completeFrame, frameOfBody_eq size]
  rfl

/-- The model's duplicate test is that of R13. -/
theorem duplicateDemand_iff (p : Port) (h : Header) (s : State) : duplicateDemand p h s = true ↔ DuplicateDemand p h s := by
  simp [duplicateDemand, DuplicateDemand, and_assoc]

theorem arrive_badCheck (h : f.check ≠ crc (headerBytes f.header ++ f.payload)) :
    arrive p f s = report (reportOf .linkCrc (.port p) s.now (some f.header)) s := if_pos h

theorem arrive_badKind (h : f.check = crc (headerBytes f.header ++ f.payload)) (hk : kindOf f.header.kind = .invalid) :
    arrive p f s = report (reportOf .linkFormat (.port p) s.now (some f.header)) s :=
  (if_neg (not_not_intro h)).trans (if_pos hk)

theorem arrive_badLength (h : f.check = crc (headerBytes f.header ++ f.payload)) (hk : kindOf f.header.kind ≠ .invalid)
    (hl : lengthPermitted (kindOf f.header.kind) f.header.length.toNat = false) :
    arrive p f s = report (reportOf .linkFormat (.port p) s.now (some f.header)) s :=
  (if_neg (not_not_intro h)).trans ((if_neg hk).trans (if_pos (by rw [hl]; rfl)))

/-- An intact frame is ended by the duplicate test or handed to the sorter; the test reads nothing of the receiver. -/
theorem arrive_intact (h : Intact f) : arrive p f (s.received p) =
    if DuplicateDemand p f.header s then s.received p else sortFrame p f (s.received p) := by
  obtain ⟨check, kind, length⟩ := h
  refine (if_neg (not_not_intro check)).trans ((if_neg kind).trans ((if_neg (by rw [length]; decide)).trans ?_))
  simp only [duplicateDemand_iff]
  rfl

/-- A frame that reaches the sorter's test 2 and is no valve command is copied where it matches, then forwarded (R19). -/
theorem exec_frameArrival_sorted (h : Sorted p b f s) (hk : kindOf f.header.kind ≠ .valveCommand) :
    exec (.frameArrival p b) s = .next (forwardFrame p f (copyFrame p f (s.received p))) := by
  rw [exec_frameArrival h.arrives, arrive_intact h.intact, if_neg h.fresh]
  exact congrArg _ ((if_neg h.elsewhere).trans (if_neg hk))

end Arrival

/-- Settles O12, test by test in R11's order. -/
theorem arrivalTests : Obligations.ArrivalTests := by
  intro p b f s h
  rw [exec_frameArrival h]
  refine ⟨fun hc => ?_, fun hc hk => ?_, fun hc hk hl => ?_, fun hi hd => ?_, fun hi hd => ?_⟩
  · rw [arrive_badCheck hc]
    rfl
  · rw [arrive_badKind hc hk]
    rfl
  · rw [arrive_badLength hc hk (by rwa [← h.size])]
    rfl
  · rw [arrive_intact hi, if_pos hd]
  · rw [arrive_intact hi, if_neg hd]

/-! ## A frame given byte by byte -/

/-- Commands carried out after commands that answered a next state. -/
theorem execAll_append {xs ys : List Instr} {s t : State} (h : execAll xs s = .next t) :
    execAll (xs ++ ys) s = execAll ys t := by
  induction xs generalizing s with
  | nil =>
    cases h
    rfl
  | cons x xs ih =>
    simp only [execAll, List.cons_append] at h ⊢
    split at h
    · exact ih h
    · cases h
    · cases h

theorem execAll_byteReceived (p : Port) (b : Byte) (is : List Instr) (s : State) :
    execAll (.byteReceived p b :: is) s = execAll is (takeByte p b s) := rfl

/-- The three header bytes of a length up to 12 lead from READY to an empty body. -/
theorem execAll_header {p : Port} {h : Header} {s : State} (hr : (s.port.sel p).rx = .ready false)
    (hl : h.length.toNat ≤ 12) :
    execAll ((headerBytes h).map (Instr.byteReceived p)) s = .next (setReceiver p (.body h []) s) := by
  obtain ⟨b0, b1, b2, bytes, rfl⟩ := exists_headerBytes h
  rw [bytes]
  simp only [List.map_cons, List.map_nil, execAll_byteReceived]
  rw [takeByte_ready hr, takeByte_second (setReceiver_rx ..), takeByte_third (setReceiver_rx ..), thirdHeaderByte_short hl,
    setReceiver_setReceiver, setReceiver_setReceiver]
  rfl

/-- Bytes that leave a body open are kept in the order they came. -/
theorem execAll_body {p : Port} {h : Header} {rest : List Byte} {s : State} (bytes : List Byte)
    (hr : (s.port.sel p).rx = .body h rest) (hl : rest.length + bytes.length < h.length.toNat + 2) :
    execAll (bytes.map (Instr.byteReceived p)) s = .next (setReceiver p (.body h (rest ++ bytes)) s) := by
  induction bytes generalizing rest s with
  | nil => rw [List.append_nil, setReceiver_self hr]; rfl
  | cons b bytes ih =>
    rw [List.length_cons] at hl
    rw [List.map_cons, execAll_byteReceived, takeByte_body hr (by omega),
      ih (setReceiver_rx ..) (by rw [List.length_append, List.length_singleton]; omega), setReceiver_setReceiver,
      List.append_assoc]
    rfl

/-- All bytes of a frame but the last bring it to the point of arriving. -/
theorem execAll_frame {p : Port} {f : Frame} {s : State} (hr : (s.port.sel p).rx = .ready false)
    (size : f.payload.length = f.header.length.toNat) (hl : f.payload.length ≤ 12) :
    execAll ((headerBytes f.header ++ (f.payload ++ [f.check.extractLsb' 8 8])).map (Instr.byteReceived p)) s =
      .next (setReceiver p (.body f.header (f.payload ++ [f.check.extractLsb' 8 8])) s) := by
  rw [List.map_append, execAll_append (execAll_header hr (size ▸ hl)),
    execAll_body _ (setReceiver_rx ..) (by simp [size]), setReceiver_setReceiver]
  rfl

/-- Settles O9: all bytes but the last lead to a body that the last one completes, and the frame is read back from it. -/
theorem receiverRebuildsFrames : Obligations.ReceiverRebuildsFrames := by
  intro p f s hr size hl
  have bytes : frameBytes f = headerBytes f.header ++ (f.payload ++ [f.check.extractLsb' 8 8]) ++ [f.check.extractLsb' 0 8] := by
    simp [frameBytes]
  have arrives : Arrives p (f.check.extractLsb' 0 8) f
      (setReceiver p (.body f.header (f.payload ++ [f.check.extractLsb' 8 8])) s) :=
    ⟨size, _, setReceiver_rx .., by simp⟩
  constructor
  · rw [bytes, List.map_append, execAll_append (execAll_frame hr size hl), List.map_singleton, execAll_byteReceived,
      takeByte_of_arrives arrives, received_setReceiver]
    rfl
  · rw [bytes, List.dropLast_concat, execAll_append (execAll_frame hr size hl)]
    simp only [execAll, exec_frameArrival arrives, received_setReceiver]

end Sys2Proof.Machine
end

section
/-! PROOFS. The arbiters, answers and notices, the lamp, and the two resets (R14 to R18, R30, R33 to R36, R169 to R175). -/

namespace Sys2Proof.Machine

open Sys2Proof

/-! ## A step (R18) -/

/-- Settles O1, by the shape of the queue. -/
theorem stepTakesTheFront : Obligations.StepTakesTheFront := by
  refine ⟨fun c rest s h => ?_, fun s h => ?_⟩
  · simp only [step, h]
  · simp only [step, h, tick, List.nil_append]

/-! ## What an idle port's arbiter takes (R30, R35) -/

section Arbiters

variable {s : State}

/-- An idle port D takes the next waiting command. -/
theorem chooseDown_of_command {c : Chan} {x : ValveCommand} (h : s.port.d.tx = .idle)
    (hx : nextCommand s.variant s.downstream = some (c, x)) :
    chooseDown s =
      beginOwn .d x.node valveCommandKind (valvePayload x)
        { s with downstream := { slots := s.downstream.slots.put c none, lastServed := c } } := by
  simp only [chooseDown, PerPort.sel_d, h, hx]

/-- Where no command waits, an idle port D takes the head of the down FIFO. -/
theorem chooseDown_of_frame {f : Frame} {rest : List Frame} (h : s.port.d.tx = .idle)
    (hx : nextCommand s.variant s.downstream = none) (hf : s.fifos.down = f :: rest) :
    chooseDown s = beginFrame .d f { s with fifos := { s.fifos with down := rest } } := by
  simp only [chooseDown, PerPort.sel_d, h, hx, hf]

/-- Where neither waits, port D's choice does nothing. -/
theorem chooseDown_of_nothing (hx : nextCommand s.variant s.downstream = none) (hf : s.fifos.down = []) :
    chooseDown s = s := by
  unfold chooseDown
  split
  · rfl
  · simp only [hx, hf]

/-- Where no answer waits, an idle port U takes the notice. -/
theorem chooseUp_of_notice {n : Notice} (h : s.port.u.tx = .idle) (hr : s.upstream.responses = [])
    (hn : s.upstream.notice = some n) :
    chooseUp s =
      beginOwn .u 0 statusNoticeKind (noticePayload n) { s with upstream := { s.upstream with notice := none } } := by
  simp only [chooseUp, PerPort.sel_u, h, hr, hn]

/-- Where neither an answer nor a notice waits, an idle port U takes the head of the up FIFO. -/
theorem chooseUp_of_frame {f : Frame} {rest : List Frame} (h : s.port.u.tx = .idle) (hr : s.upstream.responses = [])
    (hn : s.upstream.notice = none) (hf : s.fifos.up = f :: rest) :
    chooseUp s = beginFrame .u f { s with fifos := { s.fifos with up := rest } } := by
  simp only [chooseUp, PerPort.sel_u, h, hr, hn, hf]

/-- Where nothing waits, port U's choice does nothing. -/
theorem chooseUp_of_nothing (hr : s.upstream.responses = []) (hn : s.upstream.notice = none) (hf : s.fifos.up = []) :
    chooseUp s = s := by
  unfold chooseUp
  split
  · rfl
  · simp only [hr, hn, hf]

end Arbiters

/-! ## The round robin (R30) -/

/-- The round robin visits the variant's channels, each of them. -/
theorem mem_roundRobin (v : Variant) (last c : Chan) : c ∈ roundRobin v last ↔ c.val < v.channels := by
  cases v <;> revert last c <;> decide

/-- The round robin visits the channels in the order of their turns. -/
theorem roundRobin_turns (v : Variant) (last : Chan) (h : last.val < v.channels) :
    (roundRobin v last).Pairwise fun c c' => turn v last c ≤ turn v last c' := by
  cases v <;> revert last <;> decide

/-- The command chosen waits for a channel of the variant whose turn comes before that of any other that waits. -/
theorem nextCommand_some {v : Variant} {d : Downstream} {c : Chan} {x : ValveCommand} (hl : d.lastServed.val < v.channels)
    (h : nextCommand v d = some (c, x)) :
    c.val < v.channels ∧ d.slots.nth c = some x ∧
      ∀ c' : Chan, c'.val < v.channels → d.slots.nth c' ≠ none → turn v d.lastServed c ≤ turn v d.lastServed c' := by
  obtain ⟨before, first, later, order, found, empty⟩ := List.findSome?_eq_some_iff.mp h
  obtain ⟨y, hy, pair⟩ := Option.map_eq_some_iff.mp found
  obtain ⟨rfl, rfl⟩ := Prod.mk.inj pair
  refine ⟨(mem_roundRobin v d.lastServed first).mp (by simp [order]), hy, fun c' hv hw => ?_⟩
  have turns := roundRobin_turns v d.lastServed hl
  rw [order, List.pairwise_append, List.pairwise_cons] at turns
  have visited := (mem_roundRobin v d.lastServed c').mpr hv
  rw [order, List.mem_append, List.mem_cons] at visited
  rcases visited with early | rfl | late
  · exact absurd (Option.map_eq_none_iff.mp (empty c' early)) hw
  · exact Nat.le_refl _
  · exact turns.2.1.1 c' late

/-- Where no command is chosen, none waits for a channel of the variant. -/
theorem nextCommand_none {v : Variant} {d : Downstream} (h : nextCommand v d = none) (c : Chan) (hc : c.val < v.channels) :
    d.slots.nth c = none :=
  Option.map_eq_none_iff.mp (List.findSome?_eq_none_iff.mp h c ((mem_roundRobin v d.lastServed c).mpr hc))

/-! ## The end of a transmission (R14) -/

/-- The state with a port's transmitter back in IDLE, before the arbiter chooses (R14). -/
def State.sent (s : State) (p : Port) : State := s.modifyPort p fun x => { x with tx := .idle }

/-- TRANSMISSION_COMPLETE at port D: the transmitter goes to IDLE and the arbiter chooses. -/
theorem exec_transmissionComplete_d {f : Frame} {s : State} (h : s.port.d.tx = .sending f) :
    exec (.transmissionComplete .d) s = .next (chooseDown (s.sent .d)) := by
  simp only [exec, execTransmissionComplete, PerPort.sel_d, h]
  rfl

/-- TRANSMISSION_COMPLETE at port U: the transmitter goes to IDLE and the arbiter chooses. -/
theorem exec_transmissionComplete_u {f : Frame} {s : State} (h : s.port.u.tx = .sending f) :
    exec (.transmissionComplete .u) s = .next (chooseUp (s.sent .u)) := by
  simp only [exec, execTransmissionComplete, PerPort.sel_u, h]
  rfl

/-- Settles O13: each port by what its arbiter finds waiting, in the order in which it looks. -/
theorem arbiterChoices : Obligations.ArbiterChoices := by
  refine ⟨fun f s h hl => ⟨_, exec_transmissionComplete_d h, ?_⟩,
    fun f s h => ⟨_, exec_transmissionComplete_u h, fun r rest hr => ?_, fun hr n hn => ?_, fun hr hn g rest hg => ?_,
      fun hr hn hg => ?_⟩⟩
  · cases hx : nextCommand s.variant s.downstream with
    | some cx =>
      obtain ⟨c, x⟩ := cx
      obtain ⟨hc, waits, first⟩ := nextCommand_some hl hx
      exact .inl ⟨c, x, hc, waits, first, chooseDown_of_command (s := s.sent .d) rfl hx⟩
    | none =>
      refine .inr ⟨nextCommand_none hx, ?_⟩
      cases hd : s.fifos.down with
      | cons g rest => exact .inl ⟨g, rest, rfl, chooseDown_of_frame (s := s.sent .d) rfl hx hd⟩
      | nil => exact .inr ⟨rfl, chooseDown_of_nothing (s := s.sent .d) hx hd⟩
  · exact chooseUp_of_response (s := s.sent .u) rfl hr
  · rw [chooseUp_of_notice (s := s.sent .u) rfl hr hn, ← hr]
    rfl
  · exact chooseUp_of_frame (s := s.sent .u) rfl hr hn hg
  · exact chooseUp_of_nothing (s := s.sent .u) hr hn hg

/-! ## Answers (R33, R175) -/

/-- A response placed on an idle port U where none waits begins transmission at once, which frees its place. -/
theorem placeResponse_of_idle (r : Response) {s : State} (h : s.port.u.tx = .idle) (hr : s.upstream.responses = []) :
    placeResponse r s =
      beginOwn .u r.dest mgmtResponseKind (responsePayload r)
        { s with management := { s.management with reserved := s.management.reserved - 1 } } := by
  have alone : s.upstream.responses ++ [r] = r :: s.upstream.responses := by rw [hr]; rfl
  exact chooseUp_of_response h alone

/-- Settles O35, by port U's transmitter. -/
theorem answerPlaced : Obligations.AnswerPlaced := by
  refine ⟨fun r result data s => ⟨fun f h => ?_, fun h hr => ?_⟩, rfl⟩
  · rw [answer, placeResponse_of_sending _ h, finishService_eq]
    rfl
  · rw [answer, placeResponse_of_idle _ h hr, finishService_eq]
    cases hq : s.management.queue <;> simp only [nextService, hq] <;> rfl

/-! ## The lamp and the notices (R169 to R171) -/

/-- A notice placed on an idle port U where no answer waits begins transmission at once. -/
theorem placeNotice_of_idle {s : State} (h : s.port.u.tx = .idle) (hr : s.upstream.responses = []) :
    placeNotice s =
      beginOwn .u 0 statusNoticeKind (noticePayload (buildNotice s))
        { s with upstream := { s.upstream with notice := none } } :=
  chooseUp_of_notice h hr rfl

/-- The lamp is red in every part state but SERVICE and DEGRADED. -/
theorem deriveLamp_red (part : PartState) (list : List FaultEntry) :
    deriveLamp part list = .red ↔ part ≠ .service ∧ part ≠ .degraded := by
  cases part
  case service =>
    simp only [deriveLamp]
    split <;> simp
  all_goals simp [deriveLamp]

/-- The lamp is amber in DEGRADED, and in SERVICE while an entry is not acknowledged. -/
theorem deriveLamp_amber (part : PartState) (list : List FaultEntry) :
    deriveLamp part list = .amber ↔ part = .degraded ∨ (part = .service ∧ ∃ e ∈ list, e.acknowledged = false) := by
  cases part <;> simp [deriveLamp]

/-- The reporter after a change of part state: the lamp derived again, the pins with it. -/
theorem partStateChanged_reporter (s : State) :
    (partStateChanged s).reporter = s.reporter.show (deriveLamp s.control.part s.monitor.list) := by
  simp [partStateChanged]

/-- A lamp shown, with its pins. -/
theorem Reporter.show_eq (r : Reporter) (l : Lamp) :
    r.show l = { r with lamp := l, lampR := decide (l = .red), lampA := decide (l = .amber) } := by
  cases l <;> rfl

/-- STATUS_PERIOD_TIMER_EXPIRY, due: the timer is re-armed and a notice placed. -/
theorem exec_statusPeriodTimerExpiry {e : Time} {s : State} (h : Due s (some s.reporter.timer) e) :
    exec .statusPeriodTimerExpiry s =
      .next (placeNotice { s with reporter := { s.reporter with timer := after e s.tables.statusPeriod } }) :=
  congrArg _ (onDue_of_due h _)

/-- Settles O20: the lamp by the two laws of its derivation, the notices by port U's transmitter. -/
theorem lampAndNotices : Obligations.LampAndNotices := by
  constructor
  · intro s amber red
    refine ⟨deriveLamp s.control.part s.monitor.list, deriveLamp_red _ _, deriveLamp_amber _ _, fun h => if_pos h.symm,
      fun h => if_neg (Ne.symm h), ?_, fun f h => ?_⟩
    · rw [partStateChanged_reporter, Reporter.show_eq]
    · rw [partStateChanged_reporter]
      exact placeNotice_of_sending h
  · intro e s due s' code
    refine ⟨buildNotice s', rfl, fun f h => ?_, fun h hr => ?_⟩
    · rw [exec_statusPeriodTimerExpiry due]
      exact congrArg _ (placeNotice_of_sending h)
    · rw [exec_statusPeriodTimerExpiry due]
      exact congrArg _ (placeNotice_of_idle h hr)

/-! ## The resets (R17) -/

/-- The channel last served after a reset is the variant's highest (R30). -/
theorem highestChannel_val (v : Variant) : (highestChannel v).val + 1 = v.channels := by
  cases v <;> rfl

/-- The straps read as the low bits of the address (R17). -/
theorem addressOf_toNat (k : BitVec 3) : (addressOf k).toNat = 48 + k.toNat := by
  simp only [addressOf, BitVec.toNat_ofNat]
  omega

/-- The blocks after a power-on reset, before the notice of its end (R17, R64). -/
def poweredOn (k : BitVec 3) (s : State) : State :=
  resetWith k tablesPowerOn (controlAfterReset false) (Row.fill 6 (channelInitial .vacant 0)) s

/-- The blocks after a pin reset, before the notice of its end (R17, R64, R119). -/
def pinned (k : BitVec 3) (s : State) : State :=
  resetWith k s.tables (controlAfterReset s.control.written) (channelsAfterPin s) s

/-- A power-on reset ends with its notice in flight on port U (R35, R170; log 25). -/
theorem exec_powerOnReset (k : BitVec 3) (s : State) :
    exec (.powerOnReset k) s =
      .next (beginOwn .u 0 statusNoticeKind (noticePayload (buildNotice (poweredOn k s))) (poweredOn k s)) :=
  congrArg Host.Outcome.next (placeNotice_of_idle (s := poweredOn k s) rfl rfl)

/-- So does a pin reset. -/
theorem exec_pinReset (k : BitVec 3) (s : State) :
    exec (.pinReset k) s =
      .next (beginOwn .u 0 statusNoticeKind (noticePayload (buildNotice (pinned k s))) (pinned k s)) :=
  congrArg Host.Outcome.next (placeNotice_of_idle (s := pinned k s) rfl rfl)

/-- The notice of a power-on reset says COLD and RED, with every channel VACANT and Vref absent. -/
theorem noticePayload_poweredOn (k : BitVec 3) (s : State) :
    noticePayload (buildNotice (poweredOn k s)) = [2, 0, 0, 0, 255, 255, 0, 0] :=
  (by decide : noticePayload resetNotice = _)

/-- The notice of a pin reset says RED, with LOADING where the written flag is kept set and else COLD. -/
theorem noticePayload_pinned (k : BitVec 3) (s : State) :
    (noticePayload (buildNotice (pinned k s))).head? = some (if s.control.written = true then 0x12 else 0x02) := by
  have first : (noticePayload (buildNotice (pinned k s))).head? =
      some (nibbles (partCode (controlAfterReset s.control.written).part) 2) := rfl
  rw [first]
  cases s.control.written <;> rfl

/-- Settles O5, block by block; from State.reset with the straps at 0 every block is the one State.reset has. -/
theorem powerOnReset : Obligations.PowerOnReset := by
  refine ⟨fun k s => ⟨_, exec_powerOnReset k s, addressOf_toNat k, rfl, rfl, rfl, rfl, rfl, highestChannel_val s.variant,
    rfl, rfl, rfl, ?_, rfl, rfl, rfl, rfl, rfl, rfl, rfl, rfl, rfl, rfl⟩, ?_⟩
  · rw [noticePayload_poweredOn]
    rfl
  · exact exec_powerOnReset 0 State.reset

/-- Each channel's context after pin reset. -/
theorem channelsAfterPin_nth (s : State) (c : Chan) : (channelsAfterPin s).nth c = channelAfterPin s c := by
  match c with
  | 0 | 1 | 2 | 3 | 4 | 5 => rfl

/-- Settles O6, block by block. -/
theorem pinReset : Obligations.PinReset := fun k s =>
  ⟨_, exec_pinReset k s, addressOf_toNat k, rfl, rfl, rfl, rfl, rfl, highestChannel_val s.variant, rfl, rfl, rfl,
    ⟨_, rfl, rfl, noticePayload_pinned k s⟩, rfl, rfl, rfl, rfl, rfl, channelsAfterPin_nth s, rfl, rfl, rfl,
    congrArg (Reporter.mk .red true false) (BitVec.zero_add _)⟩

end Sys2Proof.Machine
end

section
/-! PROOFS. The copies of a door notice, a load sample and a node report (R23 to R25, R104, R114, R115, R161). -/

namespace Sys2Proof.Machine

open Sys2Proof

/-! ## DOOR_NOTICE (R23, R114, R115) -/

/-- The model's test of R115. -/
theorem anyStopHold_iff (t : Tables) :
    anyStopHold t = true ↔ ∃ a : Axle, t.axlePresent a = true ∧ (t.aux.nth a).stopHold ≠ 0 := by
  simp [anyStopHold]

section Door

variable {s : State}

/-- A door that opens at standstill, with a stop hold on a present axle, starts stop hold. -/
theorem doorNotice_starts (still : s.reference.standstill = true) (holds : anyStopHold s.tables = true)
    (off : s.demand.stopHold = false) :
    doorNotice true s = recomputeAll { s with demand := { s.demand with doorOpen := true, stopHold := true } } := by
  simp [doorNotice, setStopHold, still, holds, off]

/-- Any other open door leaves stop hold as it is. -/
theorem doorNotice_opens
    (h : s.reference.standstill = false ∨ anyStopHold s.tables ≠ true ∨ s.demand.stopHold = true) :
    doorNotice true s = { s with demand := { s.demand with doorOpen := true } } := by
  unfold doorNotice
  rcases h with moving | without | on
  · simp [moving]
  · simp [without]
  · simp [setStopHold, on]

/-- A door that closes ends stop hold. -/
theorem doorNotice_ends (on : s.demand.stopHold = true) :
    doorNotice false s = recomputeAll { s with demand := { s.demand with doorOpen := false, stopHold := false } } := by
  simp [doorNotice, setStopHold, on]

/-- A door that closes without stop hold is noted alone. -/
theorem doorNotice_closes (off : s.demand.stopHold = false) :
    doorNotice false s = { s with demand := { s.demand with doorOpen := false } } := by
  simp [doorNotice, setStopHold, off]

end Door

/-- A door notice of the node that ROLES names is copied to the demand unit. -/
theorem copyFrame_door {f : Frame} {s : State} {d : Byte} (hk : kindOf f.header.kind = .doorNotice) (hp : f.payload = [d])
    (role : s.tables.roles.nth 1 ≠ 0) (source : f.header.source = s.tables.roles.nth 1) :
    copyFrame .u f s = doorNotice (d != 0) s := by
  simp only [copyFrame, hk, copyDoor, role, source, ne_eq, not_false_eq_true, and_self, if_true, hp, doorPayload]

/-! ## LOAD_SAMPLE (R25, R104) -/

/-- The axle of a load sample that concerns it. -/
theorem loadAxle_eq {v : Variant} {t : Tables} {source : Node} {n : Nat} {a : Axle} (hn : n = a.val)
    (h : LoadMatches v t source a) : t.loadAxle v source n = some a := by
  obtain ⟨inRange, present, named, rfl⟩ := h
  subst hn
  simpa [Tables.loadAxle, Tables.axlePresentNat, inRange, present] using named

/-- A load sample that concerns an axle is copied to the demand unit. -/
theorem copyFrame_load {f : Frame} {s : State} {n l1 l0 : Byte} {a : Axle} (hk : kindOf f.header.kind = .loadSample)
    (hp : f.payload = [n, l1, l0]) (hn : n.toNat = a.val) (h : LoadMatches s.variant s.tables f.header.source a) :
    copyFrame .d f s = loadSample a (min 1500 (of16 l1 l0)) s := by
  simp only [copyFrame, hk, copyLoad, hp, loadPayload, loadAxle_eq hn h]

/-! ## NODE_FAULT (R24, R161) -/

/-- The model's match of a node report is that of R24. -/
theorem nodeFaultMatch_iff (t : Tables) (source : Node) (index code : Byte) (c : Chan) :
    t.nodeFaultMatch source { index := index, code := code } c = true ↔ NodeMatches t source index code c := by
  unfold Tables.nodeFaultMatch NodeMatches
  split
  · simp [Tables.wheelMatch, Tables.valveMatch, and_assoc]
  · split <;> simp [Tables.wheelMatch, Tables.valveMatch, and_assoc]

/-- A test that one channel alone passes picks that channel from all. -/
theorem filter_allChans_eq_singleton {p : Chan → Bool} {c : Chan} (h : ∀ o, p o = true ↔ o = c) :
    allChans.filter p = [c] := by
  have test : p = fun o => decide (o = c) := funext fun o => by rw [Bool.eq_iff_iff, h, decide_eq_true_iff]
  rw [test]
  clear h test p
  revert c
  decide

/-- A node report that concerns one channel is handed to the fault monitor for it. -/
theorem copyFrame_node {f : Frame} {s : State} {index code : Byte} {c : Chan} (hk : kindOf f.header.kind = .nodeFault)
    (hp : f.payload = [index, code]) (h : ∀ o : Chan, NodeMatches s.tables f.header.source index code o ↔ o = c) :
    copyFrame .d f s = nodeReport code s.now f.header c s := by
  have one := filter_allChans_eq_singleton fun o => (nodeFaultMatch_iff s.tables f.header.source index code o).trans (h o)
  simp only [copyFrame, hk, copyNodeFault, hp, nodeFaultPayload, one, forChans_cons, forChans_nil]

/-- The end of a condition clears the flag of its entry alone (R162). -/
theorem endCondition_eq (k : FaultKind) (l : Locus) (s : State) :
    endCondition k l s =
      { s with monitor := { s.monitor with
          list := s.monitor.list.map fun e => if e.kind = k ∧ e.locus = l then { e with present := false } else e } } := by
  simp [endCondition, FaultEntry.isFor]

/-- A code of 0 ends the channel's node-reported condition. -/
theorem nodeReport_zero (t : Time) (h : Header) (c : Chan) (s : State) :
    nodeReport 0 t h c s = endCondition .nodeReported (.channel c) (setNode c false s) := rfl

/-- Any other code sets it and, in SERVICE, DEGRADED and BACKUP, reports it. -/
theorem nodeReport_code {code : Byte} (t : Time) (h : Header) (c : Chan) (s : State) (hc : code ≠ 0) :
    nodeReport code t h c s =
      if s.control.part.committed = true then
        report (reportOf .nodeReported (.channel c) t (some h)) (setNode c true s)
      else setNode c true s :=
  if_neg hc

/-- Settles O48: each copy's effect, unit by unit, before the frame is forwarded. -/
theorem otherCopies : Obligations.OtherCopies := by
  refine ⟨fun b d f s h hk hp role source => ?_, fun b l1 l0 n a f s h hk hp hn ha => ?_,
    fun b index code c f s h hk hp hc => ?_⟩
  · intro holds with'
    rw [exec_frameArrival_sorted h (by rw [hk]; decide), copyFrame_door (s := s.received .u) hk hp role source]
    refine ⟨fun hd still hh off => ?_, fun hd hs => ?_, fun hd on => ?_, fun hd off => ?_⟩
    · rw [bne_iff_ne.mpr hd, doorNotice_starts (s := s.received .u) still ((anyStopHold_iff _).mpr hh) off]
      rfl
    · rw [bne_iff_ne.mpr hd, doorNotice_opens (s := s.received .u) (hs.imp_right (Or.imp_left (mt (anyStopHold_iff _).mp)))]
      rfl
    · subst hd
      rw [bne_self_eq_false, doorNotice_ends (s := s.received .u) on]
      rfl
    · subst hd
      rw [bne_self_eq_false, doorNotice_closes (s := s.received .u) off]
      simp only [with', ← off]
      rfl
  · rw [exec_frameArrival_sorted h (by rw [hk]; decide), copyFrame_load (s := s.received .d) hk hp hn ha]
    rfl
  · rw [exec_frameArrival_sorted h (by rw [hk]; decide), copyFrame_node (s := s.received .d) hk hp hc]
    refine ⟨fun hz => ?_, fun hz committed => ?_, fun hz outside => ?_⟩
    · subst hz
      rw [nodeReport_zero, endCondition_eq]
      rfl
    · rw [nodeReport_code _ _ _ _ hz, if_pos (by exact committed)]
      rfl
    · rw [nodeReport_code _ _ _ _ hz, if_neg (by simp [outside])]
      rfl

end Sys2Proof.Machine
end

section
/-! PROOFS. A table write that is accepted (R48 to R51, R53, R134): the entry it stores, its reference checks, the partner holds
that an AXLE write evaluates again. -/

namespace Sys2Proof.Machine

open Sys2Proof

/-! ## The entry a write names and stores (R38, R50) -/

/-- A table is found by its id. -/
theorem tableOf_tableNumber (id : TableId) : tableOf (tableNumber id) = some id := by
  cases id <;> rfl

/-- A request that names an entry of the variant names that entry. -/
theorem namedEntry_of_exists {v : Variant} {id : TableId} {i : Nat} {r : Request} (h : EntryExists v id i r) :
    namedEntry v r = some (id, i) := by
  obtain ⟨table, index, size⟩ := h
  simp only [namedEntry, arg, table, index, tableOf_tableNumber, size, if_true]

/-- The table that an entry is stored in. -/
def Entry.table : Entry → TableId
  | .global _ => .global
  | .roles _ => .roles
  | .forward _ => .forward
  | .axle _ => .axle
  | .timing _ => .timing
  | .aux _ => .aux
  | .wheelMap _ => .wheelMap
  | .loadCurve _ => .loadCurve
  | .slipBands _ => .slipBands
  | .valveCurve _ => .valveCurve
  | .policy _ => .policy

/-- A write of a writable table's entry length stores an entry: of the lists of up to eight bytes each table takes those of one
length. -/
theorem storedEntry_isSome (v : Variant) {id : TableId} (i : Nat) {bytes : List Byte} (hd : id ≠ .directory)
    (hl : bytes.length = entryLength id) : (storedEntry v id i bytes).isSome = true := by
  rcases bytes with _ | ⟨b0, _ | ⟨b1, _ | ⟨b2, _ | ⟨b3, _ | ⟨b4, _ | ⟨b5, _ | ⟨b6, _ | ⟨b7, _ | ⟨b8, more⟩⟩⟩⟩⟩⟩⟩⟩⟩ <;>
    cases id <;> simp_all [storedEntry, entryLength]

/-- What a write stores is an entry of the table it names. -/
theorem storedEntry_table {v : Variant} {id : TableId} {i : Nat} {bytes : List Byte} {e : Entry}
    (h : storedEntry v id i bytes = some e) : e.table = id := by
  unfold storedEntry at h
  split at h <;> simp at h <;> subst h <;> rfl

/-! ## The reference checks (R49) -/

/-- The axle of a number exists and is present. -/
theorem axlePresentNat_iff (t : Tables) (v : Variant) (n : Nat) :
    t.axlePresentNat v n = true ↔ ∃ a : Axle, a.val = n ∧ n < v.axles ∧ t.axlePresent a = true := by
  have three : v.axles ≤ 3 := by cases v <;> decide
  simp only [Tables.axlePresentNat, Bool.and_eq_true, decide_eq_true_eq]
  constructor
  · rintro ⟨hn, present⟩
    exact ⟨Fin.ofNat 3 n, Nat.mod_eq_of_lt (by omega), hn, present⟩
  · rintro ⟨a, rfl, hn, present⟩
    exact ⟨hn, by rwa [Fin.ofNat_val_eq_self]⟩

/-- The top bit of a byte, as a number. -/
theorem field_top (b : Byte) : field b 7 1 = b.toNat / 128 := by
  have := b.isLt
  simp only [field, BitVec.extractLsb'_toNat, Nat.shiftRight_eq_div_pow]
  omega

/-- The two bits that name an axle in a WHEEL_MAP entry, as a number. -/
theorem field_axle (b : Byte) : field b 4 2 = b.toNat / 16 % 4 := by
  simp only [field, BitVec.extractLsb'_toNat, Nat.shiftRight_eq_div_pow]

/-- A channel is among an axle's where it is mapped to that axle. -/
theorem mem_chansOf (t : Tables) (a : Axle) (c : Chan) : c ∈ t.chansOf a ↔ t.mapped c = true ∧ t.axleOf c = a := by
  simp [Tables.chansOf]

/-- An axle has no channels where none is mapped to it. -/
theorem chansOf_isEmpty_iff (t : Tables) (a : Axle) :
    (t.chansOf a).isEmpty = true ↔ ∀ c : Chan, t.mapped c = true → t.axleOf c ≠ a := by
  simp [List.isEmpty_iff, List.eq_nil_iff_forall_not_mem, mem_chansOf]

/-- The present bit is the top bit of an entry's byte 0. -/
theorem field_present (b : Byte) : (field b 7 1 == 1) = decide (128 ≤ b.toNat) := by
  have := b.isLt
  rw [field_top, Bool.eq_iff_iff, beq_iff_eq, decide_eq_true_iff]
  omega

/-- The model's reference checks are those of R49. -/
theorem referenceOk_iff {v : Variant} {t : Tables} {id : TableId} {i : Nat} {bytes : List Byte} {e : Entry}
    (h : storedEntry v id i bytes = some e) (hi : i < entryCount v id) :
    t.referenceOk v i e bytes = true ↔ ReferencesAllow v t id i bytes := by
  unfold storedEntry at h
  split at h <;> simp only [Option.some.injEq, reduceCtorEq] at h <;> subst h
  case h_4 b0 f1 f0 m1 m0 s1 s0 n =>
    have number : (Fin.ofNat 3 i).val = i := Nat.mod_eq_of_lt (Nat.lt_of_lt_of_le hi (by cases v <;> decide))
    have same : ∀ x : Axle, x ≠ Fin.ofNat 3 i ↔ x.val ≠ i := fun x => by rw [Ne, Fin.ext_iff, number]
    simp only [Tables.referenceOk, ReferencesAllow, storedAxle, field_present, Bool.or_eq_true, decide_eq_true_eq,
      chansOf_isEmpty_iff, same, List.getD_cons_zero, Decidable.or_iff_not_imp_left, Nat.not_le]
  case h_7 b0 b1 b2 k tt c1 c0 =>
    simp only [Tables.referenceOk, ReferencesAllow, storedWheel, sentAxle, field_present, field_axle, Bool.or_eq_true,
      Bool.not_eq_true', decide_eq_false_iff_not, axlePresentNat_iff, List.getD_cons_zero, Decidable.imp_iff_not_or]
  case h_10 =>
    have number : (Fin.ofNat 6 (i / 8)).val = i / 8 :=
      Nat.mod_eq_of_lt (Nat.div_lt_of_lt_mul (Nat.lt_of_lt_of_le hi (by cases v <;> decide)))
    simp only [Tables.referenceOk, ReferencesAllow]
    refine ⟨fun mapped => ⟨_, number, mapped⟩, ?_⟩
    rintro ⟨c, hc, mapped⟩
    rwa [show Fin.ofNat 6 (i / 8) = c from Fin.ext (number.trans hc.symm)]
  all_goals simp only [Tables.referenceOk, ReferencesAllow, axlePresentNat_iff]

/-! ## The tests of a write, passed (R48) -/

/-- A write that passes every test is accepted. -/
theorem tableWriteRequest_accepted {r : Request} {id : TableId} {i : Nat} {e : Entry} {s : State}
    (part : s.control.part = .cold ∨ s.control.part = .loading ∨
      (s.control.part.committed = true ∧ s.reference.standstill = true))
    (named : EntryExists s.variant id i r) (writable : id ≠ .directory)
    (stored : storedEntry s.variant id i (r.args.drop 2) = some e)
    (allowed : ReferencesAllow s.variant s.tables id i (r.args.drop 2)) :
    tableWriteRequest r s = acceptWrite r i e (r.args.drop 2) s := by
  have mayWrite : s.control.part ≠ .verify ∧ (s.control.part.committed && !s.reference.standstill) = false := by
    rcases part with h | h | ⟨h, still⟩
    · simp [h, PartState.committed]
    · simp [h, PartState.committed]
    · refine ⟨fun verify => ?_, by simp [still]⟩
      simp [verify, PartState.committed] at h
  have passes := (referenceOk_iff stored named.2.2).mpr allowed
  simp only [tableWriteRequest, mayWrite.1, mayWrite.2, namedEntry_of_exists named, if_false, Bool.false_eq_true]
  cases id
  case directory => exact absurd rfl writable
  all_goals simp only [stored, passes, if_true]

/-! ## A write applied (R50, R51) -/

/-- The state that a write finds: in LOADING, which is entered first from any other part state (R53). -/
def opened (s : State) : State := if s.control.part = .loading then s else enterLoading s

/-- The state that a write is applied to: LOADING, with the written flag set (R53). -/
def openedForWrite (s : State) : State := { opened s with control := { (opened s).control with written := true } }

/-- An accepted write: LOADING entered, the write applied, the stored bytes answered. -/
theorem acceptWrite_eq (r : Request) (i : Nat) (e : Entry) (bytes : List Byte) (s : State) :
    acceptWrite r i e bytes s =
      answer r (if entryBytes e = bytes then .ok else .okClamped) (entryBytes e) (applyWrite i e (openedForWrite s)) := rfl

/-- A write to a table that no owner watches stores the entry and does nothing else. -/
theorem applyWrite_plain {i : Nat} {e : Entry} (s : State) (hr : e.table ≠ .roles) (ha : e.table ≠ .axle)
    (hw : e.table ≠ .wheelMap) : applyWrite i e s = { s with tables := s.tables.store i e } := by
  cases e with
  | roles => exact absurd rfl hr
  | axle => exact absurd rfl ha
  | wheelMap => exact absurd rfl hw
  | _ => rfl

/-- A write to ROLES makes the last accepted sequence absent where its entry is 0. -/
theorem applyWrite_roles {i : Nat} {e : Entry} (s : State) (hr : e.table = .roles) :
    applyWrite i e s =
      { s with tables := s.tables.store i e
               demand := { s.demand with lastSeq := if i = 0 then none else s.demand.lastSeq } } := by
  cases e <;> cases hr
  simp only [applyWrite]
  split <;> rfl

/-- The tables with an AXLE entry stored, its load sample absent. -/
def axleStored (i : Nat) (e : Entry) (s : State) : State :=
  { s with tables := s.tables.store i e
           demand := { s.demand with load := s.demand.load.put (Fin.ofNat 3 i) none } }

/-- A write to AXLE makes the axle's load sample absent and evaluates its partner holds again. -/
theorem applyWrite_axle {i : Nat} {e : Entry} (s : State) (ha : e.table = .axle) :
    applyWrite i e s = evaluateHolds (Fin.ofNat 3 i) (axleStored i e s) := by
  cases e <;> cases ha
  rfl

/-- A write to WHEEL_MAP does to its channel what R51, R120 and R134 say. -/
theorem applyWrite_wheelMap (i : Nat) (w : WheelEntry) (s : State) :
    applyWrite i (.wheelMap w) s =
      wheelMapEffect (Fin.ofNat 6 i) (s.tables.wheelMap.nth (Fin.ofNat 6 i))
        { s with tables := s.tables.store i (.wheelMap w) } := rfl

/-! ## Entries and partner holds, channel by channel (R121, R134) -/

/-- An entry writes the context of its own channel alone. -/
theorem enterState_chan (c : Chan) (st : ChanState) (s : State) :
    (enterState c st s).chan =
      if (s.chan.nth c).state = st then s.chan
      else s.chan.put c (entryContext st s.now (s.tables.timingOf c).maxDump (s.chan.nth c)) := by
  by_cases h : (s.chan.nth c).state = st
  · rw [enterState_same h, if_pos h]
  · rw [enterState_other h, if_neg h]
    simp

/-- An entry leaves the latch set, the offset and the partner hold of its context. -/
theorem entryContext_keeps (st : ChanState) (t : Time) (n : Nat) (x : Channel) :
    (entryContext st t n x).latch = x.latch ∧ (entryContext st t n x).offset = x.offset ∧
      (entryContext st t n x).partnerHold = x.partnerHold := by
  unfold entryContext
  cases st <;> dsimp only <;> split <;> exact ⟨rfl, rfl, rfl⟩

/-- An entry of one channel leaves every channel's latch set, offset and partner hold. -/
theorem enterState_holds (c : Chan) (st : ChanState) (s : State) (o : Chan) :
    ((enterState c st s).chan.nth o).latch = (s.chan.nth o).latch ∧
      ((enterState c st s).chan.nth o).offset = (s.chan.nth o).offset ∧
      ((enterState c st s).chan.nth o).partnerHold = (s.chan.nth o).partnerHold := by
  rw [enterState_chan]
  split
  · exact ⟨rfl, rfl, rfl⟩
  · rw [Row.nth_put]
    split
    · rename_i h
      subst h
      exact entryContext_keeps ..
    · exact ⟨rfl, rfl, rfl⟩

/-- The test of R122 leaves every channel's latch set, offset and partner hold. -/
theorem leaveYielded_holds (c : Chan) (s : State) (o : Chan) :
    ((leaveYielded c s).chan.nth o).latch = (s.chan.nth o).latch ∧
      ((leaveYielded c s).chan.nth o).offset = (s.chan.nth o).offset ∧
      ((leaveYielded c s).chan.nth o).partnerHold = (s.chan.nth o).partnerHold := by
  unfold leaveYielded
  split
  · exact enterState_holds ..
  · exact ⟨rfl, rfl, rfl⟩

/-- The state with one channel's partner hold put, before anything follows from it (R134). -/
def holdPut (c : Chan) (b : Bool) (s : State) : State := s.modifyChan c fun x => { x with partnerHold := b }

@[simp] theorem holdPut_keeps (c : Chan) (b : Bool) (s : State) :
    (holdPut c b s).control = s.control ∧ (holdPut c b s).demand = s.demand ∧ (holdPut c b s).downstream = s.downstream :=
  ⟨rfl, rfl, rfl⟩

/-- A partner hold put leaves every latch set and offset, and every other channel's hold. -/
theorem holdPut_holds (c : Chan) (b : Bool) (s : State) (o : Chan) :
    ((holdPut c b s).chan.nth o).latch = (s.chan.nth o).latch ∧
      ((holdPut c b s).chan.nth o).offset = (s.chan.nth o).offset ∧
      ((holdPut c b s).chan.nth o).partnerHold = if c = o then b else (s.chan.nth o).partnerHold := by
  rw [holdPut, modifyChan_chan, Row.nth_put]
  split
  · rename_i h
    subst h
    exact ⟨rfl, rfl, rfl⟩
  · exact ⟨rfl, rfl, rfl⟩

/-- Everything the evaluation of a partner hold can do (R134, R135): nothing where the hold stands as wanted; else the hold put, with
an entry into YIELDED before the held-out report or the test of R122 after it. -/
theorem evaluateHold_cases (c : Chan) (s : State) :
    ((s.chan.nth c).partnerHold = partnerWanted s c ∧ evaluateHold c s = s) ∨
    evaluateHold c s = holdReport c (enterState c .yielded (holdPut c (partnerWanted s c) s)) ∨
    evaluateHold c s = holdReport c (holdPut c (partnerWanted s c) s) ∨
    evaluateHold c s = leaveYielded c (holdReport c (holdPut c (partnerWanted s c) s)) := by
  unfold evaluateHold
  dsimp only
  split
  · exact .inl ⟨by assumption, rfl⟩
  · split
    · cases (s.chan.nth c).state
      case follow | dump | hold | reapply => exact .inr (.inl rfl)
      case vacant | yielded | zeroing => exact .inr (.inr (.inl rfl))
    · exact .inr (.inr (.inr rfl))

/-- One channel's partner hold evaluated again becomes what is wanted; every latch set, offset and other partner hold stands. -/
theorem evaluateHold_holds (c : Chan) (s : State) (o : Chan) :
    ((evaluateHold c s).chan.nth o).latch = (s.chan.nth o).latch ∧
      ((evaluateHold c s).chan.nth o).offset = (s.chan.nth o).offset ∧
      ((evaluateHold c s).chan.nth o).partnerHold =
        if c = o then partnerWanted s c else (s.chan.nth o).partnerHold := by
  rcases evaluateHold_cases c s with ⟨same, e⟩ | e | e | e
  · rw [e, ← same]
    refine ⟨rfl, rfl, ?_⟩
    split
    · rename_i h
      rw [h]
    · rfl
  all_goals simp [e, enterState_holds, leaveYielded_holds, holdPut_holds]

/-- What is wanted of a partner hold depends on the tables and the latch sets alone. -/
theorem partnerWanted_congr {s t : State} (tables : s.tables = t.tables)
    (latch : ∀ o, (s.chan.nth o).latch = (t.chan.nth o).latch) (c : Chan) : partnerWanted s c = partnerWanted t c := by
  simp only [partnerWanted, tables, latch]

/-- The partner holds of a list of channels evaluated again become what is wanted; every latch set and offset stands. -/
theorem evaluateHold_all_holds (cs : List Chan) (s : State) (o : Chan) :
    ((forChans cs evaluateHold s).chan.nth o).latch = (s.chan.nth o).latch ∧
      ((forChans cs evaluateHold s).chan.nth o).offset = (s.chan.nth o).offset ∧
      ((forChans cs evaluateHold s).chan.nth o).partnerHold =
        if o ∈ cs then partnerWanted s o else (s.chan.nth o).partnerHold := by
  induction cs generalizing s with
  | nil => exact ⟨rfl, rfl, rfl⟩
  | cons c cs ih =>
    obtain ⟨latch, offset, hold⟩ := ih (evaluateHold c s)
    obtain ⟨latch', offset', hold'⟩ := evaluateHold_holds c s o
    have wanted := partnerWanted_congr (s := evaluateHold c s) (t := s) (by simp) (fun x => (evaluateHold_holds c s x).1) o
    rw [forChans_cons, latch, offset, hold, latch', offset', hold', wanted]
    refine ⟨rfl, rfl, ?_⟩
    by_cases head : c = o
    · subst head
      simp
    · simp [head, Ne.symm head]

/-! ## Partner holds in LOADING -/

/-- Outside SERVICE, DEGRADED and BACKUP an entry leaves the demand unit and port D's command slots. -/
theorem enterState_uncommitted {c : Chan} {st : ChanState} {s : State} (h : s.control.part.committed = false) :
    (enterState c st s).demand = s.demand ∧ (enterState c st s).downstream = s.downstream := by
  have still : s.control.part.modulating = false := by
    revert h
    cases s.control.part <;> decide
  have slots : ∀ u : State, u.control = s.control → (entrySlots c st u).downstream = u.downstream := fun u hu => by
    unfold entrySlots
    split
    · simp [entryReplacement, hu, h]
    · split <;> simp
  by_cases same : (s.chan.nth c).state = st
  · rw [enterState_same same]
    exact ⟨rfl, rfl⟩
  · rw [enterState_other same]
    rcases notifyDemand_cases c (entrySlots c st (s.modifyChan c (entryContext st s.now (s.tables.timingOf c).maxDump))) with
      ⟨o, modulating, _⟩ | ⟨_, quiet⟩
    · simp [still] at modulating
    · rw [quiet, slots _ (by simp)]
      simp

/-- In LOADING a held-out report leaves the part state. -/
theorem holdReport_loading {c : Chan} {s : State} (h : s.control.part = .loading) :
    (holdReport c s).control.part = .loading := by
  unfold holdReport
  dsimp only
  split
  · exact h
  · simp only [settlePart, h]

/-- In LOADING a partner hold evaluated again leaves the part state, the demand unit and port D's command slots. -/
theorem evaluateHold_loading {c : Chan} {s : State} (h : s.control.part = .loading) :
    (evaluateHold c s).control.part = .loading ∧ (evaluateHold c s).demand = s.demand ∧
      (evaluateHold c s).downstream = s.downstream := by
  have reported : ∀ u : State, u.control.part = .loading → (holdReport c u).control.part = .loading :=
    fun u hu => holdReport_loading hu
  have entry : ∀ st u, u.control.part = .loading →
      (enterState c st u).demand = u.demand ∧ (enterState c st u).downstream = u.downstream :=
    fun st u hu => enterState_uncommitted (by rw [hu]; rfl)
  rcases evaluateHold_cases c s with ⟨_, e⟩ | e | e | e
  · rw [e]
    exact ⟨h, rfl, rfl⟩
  · simp [e, reported, entry, h]
  · simp [e, reported, h]
  · have stays : ∀ u : State, u.control.part = .loading → leaveYielded c u = u := fun u hu => by
      simp [leaveYielded, mayFollow, hu, PartState.modulating]
    simp [e, reported, stays, h]

/-- In LOADING the partner holds of an axle evaluated again leave the same three. -/
theorem evaluateHolds_loading {a : Axle} {s : State} (h : s.control.part = .loading) :
    (evaluateHolds a s).control.part = .loading ∧ (evaluateHolds a s).demand = s.demand ∧
      (evaluateHolds a s).downstream = s.downstream := by
  refine forChans_preserves
    (fun t => t.control.part = .loading ∧ t.demand = s.demand ∧ t.downstream = s.downstream) _ _ _ (fun c _ t ht => ?_)
    ⟨h, rfl, rfl⟩
  obtain ⟨part, demand, slots⟩ := ht
  obtain ⟨part', demand', slots'⟩ := evaluateHold_loading (c := c) part
  exact ⟨part', demand'.trans demand, slots'.trans slots⟩

/-- After an axle's partner holds are evaluated again, each of its mapped channels has the hold that is wanted (R134). -/
theorem evaluateHolds_holds (a : Axle) (s : State) (o : Chan) :
    ((evaluateHolds a s).chan.nth o).latch = (s.chan.nth o).latch ∧
      ((evaluateHolds a s).chan.nth o).offset = (s.chan.nth o).offset ∧
      (s.tables.mapped o = true → s.tables.axleOf o = a →
        ((evaluateHolds a s).chan.nth o).partnerHold = partnerWanted (evaluateHolds a s) o) := by
  obtain ⟨latch, offset, hold⟩ := evaluateHold_all_holds (s.tables.chansOf a) s o
  refine ⟨latch, offset, fun mapped axle => ?_⟩
  have wanted := partnerWanted_congr (s := evaluateHolds a s) (t := s) (by simp)
    (fun x => (evaluateHold_all_holds (s.tables.chansOf a) s x).1) o
  rw [wanted]
  exact hold.trans (if_pos ((mem_chansOf s.tables a o).mpr ⟨mapped, axle⟩))

/-! ## The entry into LOADING (R53, R54) -/

/-- The entry into LOADING leaves the part in LOADING. -/
theorem enterLoading_part (s : State) : (enterLoading s).control.part = .loading := by
  simp only [enterLoading, partStateChanged_keeps, stopCycles_keeps, closeDemand_keeps]
  exact forChans_preserves (fun t => t.control.part = .loading) _ _ _ (fun c _ t ht => holdReport_loading ht) (by simp)

/-- The part is opened into LOADING. -/
theorem opened_part (s : State) : (opened s).control.part = .loading := by
  unfold opened
  split
  · assumption
  · exact enterLoading_part s

/-- The opening leaves the tables and the last accepted sequence. -/
theorem opened_keeps (s : State) : (opened s).tables = s.tables ∧ (opened s).demand.lastSeq = s.demand.lastSeq := by
  unfold opened
  split <;> simp

/-- Settles O42: the tests pass, LOADING is entered, and the write is applied by the table it names. -/
theorem tableWriteAccepted : Obligations.TableWriteAccepted := by
  intro r id i s serving named writable notWheel size allowed part
  obtain ⟨e, stored⟩ := Option.isSome_iff_exists.mp (storedEntry_isSome s.variant i writable size)
  have table := storedEntry_table stored
  obtain ⟨tables, lastSeq⟩ := opened_keeps s
  refine ⟨e, applyWrite i e (openedForWrite s), stored, ?_, ?_⟩
  · rw [← acceptWrite_eq, ← tableWriteRequest_accepted part named writable stored allowed]
    exact congrArg Host.Outcome.next (completeService_serving serving _)
  · refine ⟨fun notRoles notAxle => ?_, fun roles => ?_, fun axle => ?_⟩
    · rw [applyWrite_plain _ (table ▸ notRoles) (table ▸ notAxle) (table ▸ notWheel), ← tables]
      rfl
    · rw [applyWrite_roles _ (table.trans roles), ← tables, ← lastSeq]
      rfl
    · rw [applyWrite_axle _ (table.trans axle)]
      have loading : (axleStored i e (openedForWrite s)).control.part = .loading := opened_part s
      obtain ⟨part', demand, slots⟩ := evaluateHolds_loading (a := Fin.ofNat 3 i) loading
      refine ⟨?_, ?_, part', demand, ?_, slots, ?_, fun c => ?_⟩
      · rw [← tables]
        simp only [evaluateHolds_keeps]
        rfl
      iterate 3
        · simp only [evaluateHolds_keeps]
          rfl
      · obtain ⟨latch, offset, hold⟩ := evaluateHolds_holds (Fin.ofNat 3 i) (axleStored i e (openedForWrite s)) c
        refine ⟨latch, offset, fun mapped axleOf => hold ?_ ?_⟩
        · simpa using mapped
        · simpa using axleOf

end Sys2Proof.Machine
end

section
/-! PROOFS. Every command completes, and but for the resets keeps part time, the address, the variant and the queue (R17, R18). -/

namespace Sys2Proof.Machine

open Sys2Proof

/-- Two states with the same queue, variant, part time and node address. -/
def SameSetting (s t : State) : Prop :=
  t.pending = s.pending ∧ t.variant = s.variant ∧ t.now = s.now ∧ t.address = s.address

theorem SameSetting.refl (s : State) : SameSetting s s := ⟨rfl, rfl, rfl, rfl⟩

theorem SameSetting.trans {s t u : State} (h : SameSetting s t) (k : SameSetting t u) : SameSetting s u := by
  obtain ⟨pending, variant, now, address⟩ := h
  obtain ⟨pending', variant', now', address'⟩ := k
  exact ⟨pending'.trans pending, variant'.trans variant, now'.trans now, address'.trans address⟩

/-- A due timer's event keeps the setting where its effect does. -/
theorem onDue_setting {timer : Option Time} {f : Time → State → State} {s : State} (h : ∀ e, SameSetting s (f e s)) :
    SameSetting s (onDue timer f s) := by
  unfold onDue
  split
  · exact h _
  · exact .refl s

/-- The completion of a service keeps the setting where its effect does. -/
theorem completeService_setting {row : RequestRow} {f : Request → State → State} {s : State}
    (h : ∀ r, SameSetting s (f r s)) : SameSetting s (completeService row f s) := by
  unfold completeService
  split
  · split
    · exact h _
    · exact .refl s
  · exact .refl s

/-- An operation made for a list of channels keeps the setting where it does so for each. -/
theorem forChans_setting {cs : List Chan} {f : Chan → State → State} {s : State} (h : ∀ c t, SameSetting t (f c t)) :
    SameSetting s (forChans cs f s) :=
  forChans_preserves (SameSetting s) cs f s (fun c _ t ht => ht.trans (h c t)) (.refl s)

/-! ## The line (R8 to R26) -/

theorem truncate_setting (p : Port) (s : State) : SameSetting s (truncate p s) := by
  unfold truncate rejectCrc
  split <;> simp [SameSetting, setReceiver]

theorem fragment_setting (p : Port) (s : State) : SameSetting s (fragment p s) := by
  unfold fragment rejectCrc
  split <;> simp [SameSetting, setReceiver]

theorem badStop_setting (p : Port) (s : State) : SameSetting s (badStop p s) := by
  unfold badStop rejectCrc
  split <;> simp [SameSetting, setReceiver]

theorem thirdHeaderByte_setting (p : Port) (h : Header) (s : State) : SameSetting s (thirdHeaderByte p h s) := by
  unfold thirdHeaderByte
  split <;> simp [SameSetting, setReceiver]

/-- The sorter's test 1 keeps the setting. -/
theorem ownFrame_setting (p : Port) (f : Frame) (s : State) : SameSetting s (ownFrame p f s) := by
  unfold ownFrame
  split
  · split
    · split <;> simp [SameSetting]
    all_goals simp [SameSetting]
  all_goals simp [SameSetting]

theorem copyDemand_setting (f : Frame) (s : State) : SameSetting s (copyDemand f s) := by
  unfold copyDemand
  (repeat' split) <;> simp [SameSetting]

theorem copyDoor_setting (f : Frame) (s : State) : SameSetting s (copyDoor f s) := by
  unfold copyDoor
  (repeat' split) <;> simp [SameSetting]

theorem copyWheel_setting (f : Frame) (s : State) : SameSetting s (copyWheel f s) := by
  unfold copyWheel
  split
  · exact forChans_setting fun c t => by simp [SameSetting]
  · exact .refl s

theorem copyPressure_setting (f : Frame) (s : State) : SameSetting s (copyPressure f s) := by
  unfold copyPressure
  split <;> simp [SameSetting]

theorem copyLoad_setting (f : Frame) (s : State) : SameSetting s (copyLoad f s) := by
  unfold copyLoad
  (repeat' split) <;> simp [SameSetting]

theorem copyNodeFault_setting (f : Frame) (s : State) : SameSetting s (copyNodeFault f s) := by
  unfold copyNodeFault
  split
  · exact forChans_setting fun c t => by simp [SameSetting]
  · exact .refl s

/-- The sorter's test 3 keeps the setting, whatever it copies. -/
theorem copyFrame_setting (p : Port) (f : Frame) (s : State) : SameSetting s (copyFrame p f s) := by
  unfold copyFrame
  split
  · exact copyDemand_setting f s
  · exact copyDoor_setting f s
  · exact copyWheel_setting f s
  · exact copyPressure_setting f s
  · exact copyLoad_setting f s
  · exact copyNodeFault_setting f s
  · exact .refl s

/-- The sorter keeps the setting. -/
theorem sortFrame_setting (p : Port) (f : Frame) (s : State) : SameSetting s (sortFrame p f s) := by
  unfold sortFrame
  split
  · exact ownFrame_setting p f s
  · split
    · simp [SameSetting]
    · exact (copyFrame_setting p f s).trans (by simp [SameSetting])

/-- A frame's arrival keeps the setting. -/
theorem arrive_setting (p : Port) (f : Frame) (s : State) : SameSetting s (arrive p f s) := by
  unfold arrive
  iterate 3
    split
    · simp [SameSetting]
  split
  · exact .refl s
  · exact sortFrame_setting p f s

theorem completeFrame_setting (p : Port) (h : Header) (bytes : List Byte) (s : State) :
    SameSetting s (completeFrame p h bytes s) :=
  arrive_setting p (frameOfBody h bytes) (setReceiver p (.ready true) s)

/-- A byte keeps the setting, in every state of the receiver. -/
theorem takeByte_setting (p : Port) (b : Byte) (s : State) : SameSetting s (takeByte p b s) := by
  unfold takeByte
  split
  · exact .refl s
  · exact .refl s
  · exact fragment_setting p s
  · exact ⟨rfl, rfl, rfl, rfl⟩
  · exact ⟨rfl, rfl, rfl, rfl⟩
  · exact thirdHeaderByte_setting ..
  · split
    · exact completeFrame_setting ..
    · exact ⟨rfl, rfl, rfl, rfl⟩

theorem endTransmission_setting (p : Port) (s : State) : SameSetting s (endTransmission p s) := by
  cases p <;> simp [endTransmission, SameSetting]

/-! ## The timers -/

theorem staleNotice_setting (c : Chan) (s : State) : SameSetting s (staleNotice c s) := by
  unfold staleNotice
  split <;> simp [SameSetting]

@[simp] theorem answerZero_keeps (q : Option Deferred) (z : ZeroAccumulator) (s : State) :
    (answerZero q z s).pending = s.pending ∧ (answerZero q z s).variant = s.variant ∧ (answerZero q z s).now = s.now ∧
      (answerZero q z s).address = s.address := by
  unfold answerZero
  split <;> simp

/-- The end of a calibration keeps the setting: its report, its answer and its entry do. -/
theorem endZero_setting (c : Chan) (z : ZeroAccumulator) (t : Time) (s : State) : SameSetting s (endZero c z t s) := by
  unfold endZero
  dsimp only
  split <;> simp [SameSetting]

/-! ## The commit (R55 to R63) -/

@[simp] theorem raiseNodeReported_all_keeps (cs : List Chan) (t : Time) (s : State) :
    (forChans cs (raiseNodeReported t) s).pending = s.pending ∧ (forChans cs (raiseNodeReported t) s).variant = s.variant ∧
      (forChans cs (raiseNodeReported t) s).now = s.now ∧ (forChans cs (raiseNodeReported t) s).address = s.address :=
  forChans_setting fun c u => by
    unfold raiseNodeReported
    split <;> simp [SameSetting]

@[simp] theorem armChannel_all_keeps (cs : List Chan) (t : Time) (s : State) :
    (forChans cs (armChannel t) s).pending = s.pending ∧ (forChans cs (armChannel t) s).variant = s.variant ∧
      (forChans cs (armChannel t) s).now = s.now ∧ (forChans cs (armChannel t) s).address = s.address :=
  forChans_setting fun _ _ => ⟨rfl, rfl, rfl, rfl⟩

/-- A passing completion keeps the setting, action by action. -/
theorem passCommit_setting (k : CommitInFlight) (s : State) : SameSetting s (passCommit k s) := by
  simp [passCommit, SameSetting]

theorem failCommit_setting (k : CommitInFlight) (f : CheckFailure) (s : State) : SameSetting s (failCommit k f s) := by
  simp [failCommit, SameSetting]

theorem commitRequest_setting (r : Request) (s : State) : SameSetting s (commitRequest r s) := by
  unfold commitRequest
  (repeat' split) <;> simp [SameSetting, acceptCommit]

theorem releaseRequest_setting (r : Request) (s : State) : SameSetting s (releaseRequest r s) := by
  unfold releaseRequest
  (repeat' split) <;> simp [SameSetting]

/-! ## The requests -/

theorem answer_setting (r : Request) (x : ResultCode) (l : List Byte) (s : State) : SameSetting s (answer r x l s) := by
  simp [SameSetting]

theorem faultClearRequest_setting (r : Request) (s : State) : SameSetting s (faultClearRequest r s) := by
  unfold faultClearRequest
  (repeat' split) <;> simp [SameSetting, acknowledge, removeEntry]

theorem wheelMapEffect_setting (c : Chan) (old : WheelEntry) (s : State) : SameSetting s (wheelMapEffect c old s) := by
  simp only [wheelMapEffect, mapState]
  split <;> simp [SameSetting, dropNode, wheelRewritten]

theorem applyWrite_setting (i : Nat) (e : Entry) (s : State) : SameSetting s (applyWrite i e s) := by
  cases e with
  | roles => rw [applyWrite_roles _ rfl]; exact ⟨rfl, rfl, rfl, rfl⟩
  | axle => rw [applyWrite_axle _ rfl]; simp [SameSetting, axleStored]
  | wheelMap w =>
    rw [applyWrite_wheelMap]
    exact wheelMapEffect_setting _ _ { s with tables := s.tables.store i (.wheelMap w) }
  | _ => simp [applyWrite, SameSetting]

theorem opened_setting (s : State) : SameSetting s (opened s) := by
  unfold opened
  split <;> simp [SameSetting]

theorem acceptWrite_setting (r : Request) (i : Nat) (e : Entry) (bytes : List Byte) (s : State) :
    SameSetting s (acceptWrite r i e bytes s) :=
  .trans (opened_setting s) (.trans (applyWrite_setting i e (openedForWrite s)) (answer_setting ..))

theorem tableWriteRequest_setting (r : Request) (s : State) : SameSetting s (tableWriteRequest r s) := by
  unfold tableWriteRequest
  dsimp only
  split
  · exact answer_setting ..
  · split
    · exact answer_setting ..
    · split
      · exact answer_setting ..
      · exact answer_setting ..
      · split
        · exact answer_setting ..
        · split
          · exact acceptWrite_setting ..
          · exact answer_setting ..

theorem restore_setting (c : Chan) (s : State) : SameSetting s (restore c s) := by
  unfold restore
  dsimp only
  (repeat' split) <;> simp [SameSetting]

theorem acceptZero_setting (r : Request) (c : Chan) (s : State) : SameSetting s (acceptZero r c s) := by
  simp [acceptZero, SameSetting]

/-! ## Every command -/

/-- A command other than a reset answers a next state of the same setting. -/
theorem exec_setting {c : Instr} (s : State) (h : ∀ k, c ≠ .powerOnReset k ∧ c ≠ .pinReset k) :
    ∃ t, exec c s = .next t ∧ SameSetting s t := by
  cases c with
  | powerOnReset k => exact absurd rfl (h k).1
  | pinReset k => exact absurd rfl (h k).2
  | receiverIdle p =>
    refine ⟨_, rfl, ?_⟩
    split
    case h_4 | h_5 => exact truncate_setting p s
    all_goals exact ⟨rfl, rfl, rfl, rfl⟩
  | lineError p e =>
    refine ⟨_, rfl, ?_⟩
    cases e with
    | badStopBit => exact badStop_setting p s
    | truncated => exact truncate_setting p s
    | fragment => exact fragment_setting p s
  | badLength p b =>
    refine ⟨_, rfl, ?_⟩
    split
    · split
      · exact thirdHeaderByte_setting ..
      · exact .refl s
    all_goals exact .refl s
  | frameArrival p b =>
    refine ⟨_, rfl, ?_⟩
    split
    · split
      · exact completeFrame_setting ..
      · exact .refl s
    all_goals exact .refl s
  | byteReceived p b => exact ⟨_, rfl, takeByte_setting p b s⟩
  | transmissionComplete p =>
    refine ⟨_, rfl, ?_⟩
    split
    · exact endTransmission_setting p s
    · exact .refl s
  | cycleTimerExpiry | settleWindowEnd | wheelDeadline2Expiry | standstillTimerExpiry | demandDeadline1Expiry
  | demandDeadline2Expiry | supplyTimerExpiry | pressureDeadline2Expiry | dumpTimerExpiry | roleValveQuietTimerExpiry
  | statusPeriodTimerExpiry =>
    exact ⟨_, rfl, onDue_setting fun _ => by simp [SameSetting]⟩
  | wheelDeadline1Expiry c =>
    exact ⟨_, rfl, onDue_setting fun e => .trans (by simp [SameSetting]) (staleNotice_setting c _)⟩
  | pressureDeadline1Expiry c =>
    exact ⟨_, rfl, onDue_setting fun e => by dsimp only; split <;> simp [SameSetting]⟩
  | zeroTimerExpiry c =>
    refine ⟨_, rfl, onDue_setting fun e => ?_⟩
    split
    · exact endZero_setting ..
    · simp [SameSetting]
  | commitCheckComplete =>
    refine ⟨_, rfl, ?_⟩
    split
    · split
      · exact passCommit_setting ..
      · exact failCommit_setting ..
    · exact .refl s
  | dirRead | tableRead | channelRead | firstRead =>
    exact ⟨_, rfl, completeService_setting fun _ => by split <;> exact answer_setting ..⟩
  | partRead | unknownRequest => exact ⟨_, rfl, completeService_setting fun _ => answer_setting ..⟩
  | tableWrite => exact ⟨_, rfl, completeService_setting fun r => tableWriteRequest_setting r s⟩
  | commit => exact ⟨_, rfl, completeService_setting fun r => commitRequest_setting r s⟩
  | release => exact ⟨_, rfl, completeService_setting fun r => releaseRequest_setting r s⟩
  | faultRead =>
    refine ⟨_, rfl, completeService_setting fun r => ?_⟩
    split
    · exact answer_setting ..
    · split <;> exact answer_setting ..
  | faultClear => exact ⟨_, rfl, completeService_setting fun r => faultClearRequest_setting r s⟩
  | firstClear => exact ⟨_, rfl, completeService_setting fun r => by simp [SameSetting]⟩
  | restoreChannel =>
    refine ⟨_, rfl, completeService_setting fun r => ?_⟩
    split
    · exact answer_setting ..
    · exact (restore_setting _ s).trans (answer_setting ..)
  | zero =>
    refine ⟨_, rfl, completeService_setting fun r => ?_⟩
    split
    · exact answer_setting ..
    · split
      · exact answer_setting ..
      · exact acceptZero_setting ..

/-- Settles O2: the two resets by what they answer, every other command by its setting. -/
theorem everyCommandCompletes : Obligations.EveryCommandCompletes := by
  intro c s
  by_cases h : ∀ k, c ≠ .powerOnReset k ∧ c ≠ .pinReset k
  · obtain ⟨t, answers, pending, variant, now, address⟩ := exec_setting s h
    exact ⟨t, answers, pending, variant, fun _ => ⟨now, address⟩⟩
  · cases c
    case powerOnReset k => exact ⟨_, exec_powerOnReset k s, rfl, rfl, fun other => absurd other h⟩
    case pinReset k => exact ⟨_, exec_pinReset k s, rfl, rfl, fun other => absurd other h⟩
    all_goals simp at h

end Sys2Proof.Machine
end

section
/-! PROOFS. A speed update (R86): the candidate, Vref and what follows it to and from 0, the slip and the decision, the calibrations a
roll aborts, and the channel the decision moves (R87 to R94, R122, R124, R139). -/

namespace Sys2Proof.Machine

open Sys2Proof

/-! ## The candidate (R87) -/

/-- The greatest of a list's present values is found by merging them one by one. -/
theorem greatest_eq_foldl (xs : List (Option Nat)) : greatest xs = xs.foldl (Option.merge max) none := by
  unfold greatest
  congr
  funext m x
  cases m <;> cases x <;> rfl

/-- Values merged one by one into a first one give the maximum of all that are present. -/
theorem foldl_merge_max (xs : List (Option Nat)) (m : Option Nat) :
    xs.foldl (Option.merge max) m = (m.toList ++ xs.filterMap id).max? := by
  induction xs generalizing m with
  | nil => cases m <;> rfl
  | cons x xs ih =>
    rw [List.foldl_cons, ih]
    cases m <;> cases x <;> rfl

/-- The greatest of a list's present values is the maximum of the values present. -/
theorem greatest_eq_max? (xs : List (Option Nat)) : greatest xs = (xs.filterMap id).max? := by
  rw [greatest_eq_foldl, foldl_merge_max]
  rfl

/-- A channel's speed counts as a candidate exactly where it is admitted. -/
theorem candidateSpeed_eq_some_iff (s : State) (c : Chan) (v : Nat) :
    candidateSpeed s c = some v ↔ Admitted s s.wheel c v := by
  cases h : (s.wheel.nth c).speed <;> simp [candidateSpeed, Admitted, SpeedRecord.usable, h, and_assoc, and_comm]

/-- The values the candidate is chosen from are the admitted speeds. -/
theorem mem_candidates_iff (s : State) (v : Nat) :
    v ∈ (allChans.map (candidateSpeed s)).filterMap id ↔ ∃ o, Admitted s s.wheel o v := by
  simp only [List.mem_filterMap, List.mem_map, mem_allChans, true_and, id]
  constructor
  · rintro ⟨_, ⟨o, rfl⟩, h⟩
    exact ⟨o, (candidateSpeed_eq_some_iff s o v).mp h⟩
  · rintro ⟨o, h⟩
    exact ⟨_, ⟨o, rfl⟩, (candidateSpeed_eq_some_iff s o v).mpr h⟩

/-- There is no candidate where no speed is admitted. -/
theorem candidate_eq_none {s : State} (h : ¬ ∃ o v, Admitted s s.wheel o v) : candidate s = none := by
  rw [candidate, greatest_eq_max?, List.max?_eq_none_iff, List.eq_nil_iff_forall_not_mem]
  exact fun v hv => h ⟨((mem_candidates_iff s v).mp hv).choose, v, ((mem_candidates_iff s v).mp hv).choose_spec⟩

/-- The candidate is an admitted speed that no other one exceeds. -/
theorem candidate_eq_some {s : State} {o : Chan} {v : Nat} (admitted : Admitted s s.wheel o v)
    (greatest : ∀ o' v', Admitted s s.wheel o' v' → v' ≤ v) : candidate s = some v := by
  rw [candidate, greatest_eq_max?, List.max?_eq_some_iff]
  refine ⟨(mem_candidates_iff s v).mpr ⟨o, admitted⟩, fun w hw => ?_⟩
  obtain ⟨o', admitted'⟩ := (mem_candidates_iff s w).mp hw
  exact greatest o' w admitted'

/-! ## Vref, and what follows it to and from 0 (R88, R89) -/

/-- Without a candidate the reference stands. -/
theorem updateVref_of_none {s : State} (t : Time) (h : candidate s = none) : updateVref s t = s.reference := by
  simp only [updateVref, h]

/-- With a candidate Vref moves toward it and the update is stamped. -/
theorem updateVref_of_some {s : State} {v : Nat} (t : Time) (h : candidate s = some v) :
    updateVref s t = { s.reference with vref := some (nextVref s.tables s.reference v t), lastUpdate := some t } := by
  simp only [updateVref, h]

/-- An update changes Vref and its stamp alone. -/
@[simp] theorem updateVref_keeps (s : State) (t : Time) :
    (updateVref s t).zeroSince = s.reference.zeroSince ∧ (updateVref s t).timer = s.reference.timer ∧
      (updateVref s t).standstill = s.reference.standstill ∧ (updateVref s t).slip = s.reference.slip ∧
      (updateVref s t).decision = s.reference.decision := by
  cases h : candidate s <;> simp [updateVref, h]

/-- A present Vref stays present. -/
theorem updateVref_vref_ne_none {s : State} {v : Nat} (t : Time) (h : s.reference.vref = some v) :
    (updateVref s t).vref ≠ none := by
  cases k : candidate s <;> simp [updateVref, h, k]

/-- The first Vref is the candidate. -/
theorem nextVref_first {tables : Tables} {r : Reference} (v : Nat) (t : Time) (h : r.vref = none) :
    nextVref tables r v t = min 40000 v := by
  simp only [nextVref, h]

/-- Vref rises toward a candidate that is not below it, within A_up. -/
theorem nextVref_rises {tables : Tables} {r : Reference} {v old : Nat} {t last : Time} (hv : r.vref = some old)
    (hl : r.lastUpdate = some last) (h : old ≤ v) :
    nextVref tables r v t = min 40000 (min v (old + tables.global.nth 0 * (t - last).toNat / 1000)) := by
  simp only [nextVref, hv, hl, since, elapsed, if_pos h, Tables.aUp]

/-- Vref falls toward a candidate below it, within D_max. -/
theorem nextVref_falls {tables : Tables} {r : Reference} {v old : Nat} {t last : Time} (hv : r.vref = some old)
    (hl : r.lastUpdate = some last) (h : v < old) :
    nextVref tables r v t = min 40000 (max v (old - tables.global.nth 1 * (t - last).toNat / 1000)) := by
  simp only [nextVref, hv, hl, since, elapsed, if_neg (Nat.not_le.mpr h), Tables.dMax]

/-- Following Vref to and from 0 leaves Vref, its stamp, the slips and the decisions. -/
@[simp] theorem followZero_keeps (before : Option Nat) (t : Time) (r : Reference) :
    (followZero before t r).vref = r.vref ∧ (followZero before t r).lastUpdate = r.lastUpdate ∧
      (followZero before t r).slip = r.slip ∧ (followZero before t r).decision = r.decision := by
  unfold followZero
  split <;> simp [*]

/-- Vref comes to 0: the stamp is set and the timer started. -/
theorem followZero_stops {before : Option Nat} {r : Reference} (t : Time) (h : before ≠ some 0) (hr : r.vref = some 0) :
    followZero before t r = { r with zeroSince := some t, timer := some (t + 2000) } := by
  unfold followZero
  split <;> simp_all [after]

/-- Vref leaves 0: the stamp, the timer and standstill are cleared. -/
theorem followZero_starts {r : Reference} {v : Nat} (t : Time) (hr : r.vref = some v) (h : v ≠ 0) :
    followZero (some 0) t r = { r with zeroSince := none, timer := none, standstill := false } := by
  unfold followZero
  split <;> simp_all

/-- Vref stays at 0 or away from it: nothing changes. -/
theorem followZero_stays {before : Option Nat} {r : Reference} (t : Time) (h : r.vref = some 0 ↔ before = some 0) :
    followZero before t r = r := by
  unfold followZero
  split <;> simp_all

/-- The vehicle begins to roll where a present Vref leaves 0. -/
theorem rolls_iff (before new : Option Nat) : rolls before new = true ↔ before = some 0 ∧ ∃ v, new = some v ∧ v ≠ 0 := by
  unfold rolls
  split
  · simp
  · rename_i other
    refine iff_of_false Bool.false_ne_true ?_
    rintro ⟨hb, v, hv, h⟩
    obtain ⟨n, rfl⟩ := Nat.exists_eq_succ_of_ne_zero h
    exact other n hb hv

/-! ## The slip and the decision (R92 to R94) -/

/-- Without Vref, without a speed or below V_min the slip is 0. -/
theorem slipOf_zero {vMin : Nat} {vref speed : Option Nat} (h : vref = none ∨ speed = none ∨ ∃ v, vref = some v ∧ v < vMin) :
    slipOf vMin vref speed = 0 := by
  rcases h with rfl | rfl | ⟨v, rfl, low⟩
  · rfl
  · cases vref <;> rfl
  · cases speed <;> simp [slipOf, low]

/-- From V_min on the slip is the shortfall in thousandths of Vref. -/
theorem slipOf_of_le {vMin v : Nat} (speed : Nat) (h : vMin ≤ v) :
    slipOf vMin (some v) (some speed) = min 1000 ((v - speed) * 1000 / v) :=
  if_neg (Nat.not_lt.mpr h)

section Decide

variable {vMin target deadband slip : Nat} {vref speed : Option Nat} {decel : Int} {band : Nat × Nat × Nat}

/-- Without Vref, without a speed or below V_min the decision is INACTIVE. -/
theorem decide94_inactive (h : vref = none ∨ speed = none ∨ ∃ v, vref = some v ∧ v < vMin) :
    decide94 vMin vref speed target deadband slip decel band = .inactive := by
  rcases h with rfl | rfl | ⟨v, rfl, low⟩
  · rfl
  · cases vref <;> rfl
  · have : ¬ vMin ≤ v := Nat.not_le.mpr low
    cases speed <;> simp [decide94, this]

/-- So it is at a target below the deadband. -/
theorem decide94_low (h : target < deadband) :
    decide94 vMin vref speed target deadband slip decel band = .inactive := by
  have : ¬ deadband ≤ target := Nat.not_le.mpr h
  cases vref <;> cases speed <;> simp [decide94, this]

/-- From V_min and from the deadband on, the band's figures decide. -/
theorem decide94_judged {v sp : Nat} (hv : vMin ≤ v) (ht : deadband ≤ target) :
    decide94 vMin (some v) (some sp) target deadband slip decel band =
      if band.1 ≤ slip ∨ (band.2.2 : Int) ≤ decel then .over else if slip ≤ band.2.1 then .under else .within := by
  simp [decide94, hv, ht]

end Decide

section Band

variable {xs ys : List SlipBand} {band : SlipBand} {v low : Nat}

/-- A used band that begins above Vref is not among those that begin at Vref or below. -/
theorem filter_below_eq_nil (used : ∀ y ∈ ys, y.x.isSome = true) (above : ∀ y ∈ ys, ∀ z, y.x = some z → v < z) :
    ys.filter (fun b => b.x.getD 65535 ≤ v) = [] := by
  rw [List.filter_eq_nil_iff]
  intro y hy
  obtain ⟨z, hz⟩ := Option.isSome_iff_exists.mp (used y hy)
  simpa [hz] using above y hy z hz

/-- The last used band that begins at Vref or below is selected. -/
theorem selectBand_last (used : ∀ y ∈ ys, y.x.isSome = true) (above : ∀ y ∈ ys, ∀ z, y.x = some z → v < z)
    (hb : band.x = some low) (h : low ≤ v) : selectBand (xs ++ band :: ys) (some v) = bandFigures band := by
  simp [selectBand, filter_below_eq_nil used above, hb, h]

/-- Where every used band begins above Vref, the first is selected. -/
theorem selectBand_first (used : ∀ y ∈ ys, y.x.isSome = true) (above : ∀ y ∈ ys, ∀ z, y.x = some z → v < z)
    (hb : band.x = some low) (h : v < low) : selectBand (band :: ys) (some v) = bandFigures band := by
  simp [selectBand, filter_below_eq_nil used above, hb, h]

end Band

/-- The figures that decide are those of the used band that holds Vref. -/
theorem selectBand_used {tables : Tables} {a : Axle} {v low : Nat} {xs ys : List SlipBand} {band : SlipBand}
    (used : (tables.bands a).filter (fun z => z.x.isSome) = xs ++ band :: ys) (hb : band.x = some low)
    (holds : (low ≤ v ∧ ∀ y ∈ ys, ∀ z, y.x = some z → v < z) ∨
      (xs = [] ∧ v < low ∧ ∀ y ∈ ys, ∀ z, y.x = some z → v < z)) :
    selectBand (tables.bandsUsed a) (some v) = bandFigures band := by
  have later : ∀ y ∈ ys, y.x.isSome = true := fun y hy => by
    have mem : y ∈ (tables.bands a).filter (fun z => z.x.isSome) := by simp [used, hy]
    exact (List.mem_filter.mp mem).2
  rw [Tables.bandsUsed, used]
  rcases holds with ⟨from', above⟩ | ⟨rfl, below, above⟩
  · exact selectBand_last later above hb from'
  · exact selectBand_first later above hb below

/-! ## The calibrations a roll aborts (R139, R140) -/

/-- What an abort makes of a channel's context: YIELDED, without accumulator, timer and request, the offset as it was. -/
def Aborted (x y : Channel) : Prop :=
  y.state = .yielded ∧ y.zeroAcc = none ∧ y.zeroTimer = none ∧ y.zeroRequest = none ∧ y.offset = x.offset

/-- The answer a calibration is given where it is aborted. -/
def abortAnswer (x : Channel) : Option Response :=
  if x.state = .zeroing then
    x.zeroRequest.map fun z => { dest := z.source, code := 13, tag := z.tag, result := .aborted, data := [] }
  else none

/-- After an entry a channel is in the state it enters. -/
theorem enterState_state (c : Chan) (st : ChanState) (s : State) : ((enterState c st s).chan.nth c).state = st := by
  rw [enterState_chan]
  split
  · assumption
  · rw [Row.nth_put_self]
    cases st <;> rfl

/-- An entry of one channel leaves every other's context. -/
theorem enterState_chan_other {c o : Chan} (st : ChanState) (s : State) (h : o ≠ c) :
    (enterState c st s).chan.nth o = s.chan.nth o := by
  rw [enterState_chan]
  split
  · rfl
  · exact Row.nth_put_ne _ _ h.symm

/-- An entry into YIELDED leaves the calibration's fields. -/
theorem entryContext_yielded_zero (t : Time) (n : Nat) (x : Channel) :
    (entryContext .yielded t n x).zeroAcc = x.zeroAcc ∧ (entryContext .yielded t n x).zeroTimer = x.zeroTimer ∧
      (entryContext .yielded t n x).zeroRequest = x.zeroRequest := by
  unfold entryContext
  dsimp only
  split <;> exact ⟨rfl, rfl, rfl⟩

/-- The state in which an aborted calibration has been answered, before its channel yields. -/
def zeroAnswered (c : Chan) (s : State) : State :=
  let closed := s.modifyChan c fun x => { x with zeroTimer := none, zeroAcc := none, zeroRequest := none }
  match (s.chan.nth c).zeroRequest with
  | some q => placeResponse { dest := q.source, code := 13, tag := q.tag, result := .aborted, data := [] } closed
  | none => closed

/-- An abort: the calibration is answered, then its channel yields. -/
theorem abortZero_eq (c : Chan) (s : State) : abortZero c s = enterState c .yielded (zeroAnswered c s) := rfl

/-- The answer of an abort closes the calibration of its own channel alone. -/
theorem zeroAnswered_chan (c : Chan) (s : State) :
    (zeroAnswered c s).chan =
      s.chan.put c { s.chan.nth c with zeroTimer := none, zeroAcc := none, zeroRequest := none } := by
  unfold zeroAnswered
  dsimp only
  split <;> simp

/-- While port U is sending, the answer of an abort waits behind the others. -/
theorem zeroAnswered_of_sending {c : Chan} {f : Frame} {s : State} (h : s.port.u.tx = .sending f)
    (z : (s.chan.nth c).state = .zeroing) :
    (zeroAnswered c s).port.u = s.port.u ∧
      (zeroAnswered c s).upstream.responses = s.upstream.responses ++ (abortAnswer (s.chan.nth c)).toList := by
  cases request : (s.chan.nth c).zeroRequest with
  | none => simp [zeroAnswered, abortAnswer, request]
  | some q =>
    simp only [zeroAnswered, request]
    rw [placeResponse_of_sending _ (by exact h)]
    exact ⟨rfl, by simp [abortAnswer, z, request]⟩

/-- While port U is sending, the reporter told of a change of part state leaves it and the answers that wait. -/
theorem partStateChanged_of_sending {f : Frame} {s : State} (h : s.port.u.tx = .sending f) :
    (partStateChanged s).port.u = s.port.u ∧ (partStateChanged s).upstream.responses = s.upstream.responses := by
  unfold partStateChanged
  rw [placeNotice_of_sending (by exact h)]
  exact ⟨rfl, rfl⟩

/-- So does the configuration controller's move between SERVICE and DEGRADED. -/
theorem settlePart_of_sending {f : Frame} {s : State} (h : s.port.u.tx = .sending f) :
    (settlePart s).port.u = s.port.u ∧ (settlePart s).upstream.responses = s.upstream.responses := by
  unfold settlePart
  split
  · split
    · exact partStateChanged_of_sending h
    · exact ⟨rfl, rfl⟩
  · split
    · exact ⟨rfl, rfl⟩
    · exact partStateChanged_of_sending h
  all_goals exact ⟨rfl, rfl⟩

/-- So does a held-out report. -/
theorem holdReport_of_sending (c : Chan) {f : Frame} {s : State} (h : s.port.u.tx = .sending f) :
    (holdReport c s).port.u = s.port.u ∧ (holdReport c s).upstream.responses = s.upstream.responses := by
  unfold holdReport
  dsimp only
  split
  · exact ⟨rfl, rfl⟩
  · exact settlePart_of_sending h

/-- A channel that is not in ZEROING is not aborted. -/
theorem abortIfZeroing_of_not {c : Chan} {s : State} (h : (s.chan.nth c).state ≠ .zeroing) : abortIfZeroing c s = s :=
  if_neg h

/-- A channel in ZEROING is aborted, and reports whether it is held out. -/
theorem abortIfZeroing_of_zeroing {c : Chan} {s : State} (h : (s.chan.nth c).state = .zeroing) :
    abortIfZeroing c s = holdReport c (enterState c .yielded (zeroAnswered c s)) :=
  (if_pos h).trans (congrArg (holdReport c) (abortZero_eq c s))

/-- An abort of one channel leaves every other's context. -/
theorem abortIfZeroing_chan_other {c o : Chan} (s : State) (h : o ≠ c) :
    (abortIfZeroing c s).chan.nth o = s.chan.nth o := by
  by_cases z : (s.chan.nth c).state = .zeroing
  · simp [abortIfZeroing_of_zeroing z, enterState_chan_other _ _ h, zeroAnswered_chan, Row.nth_put_ne _ _ h.symm]
  · rw [abortIfZeroing_of_not z]

/-- A channel in ZEROING has its calibration aborted. -/
theorem abortIfZeroing_aborted {c : Chan} {s : State} (h : (s.chan.nth c).state = .zeroing) :
    Aborted (s.chan.nth c) ((abortIfZeroing c s).chan.nth c) := by
  have inZeroing : ((zeroAnswered c s).chan.nth c).state ≠ .yielded := by simp [zeroAnswered_chan, h]
  have context : (abortIfZeroing c s).chan.nth c =
      entryContext .yielded (zeroAnswered c s).now ((zeroAnswered c s).tables.timingOf c).maxDump
        ((zeroAnswered c s).chan.nth c) := by
    rw [abortIfZeroing_of_zeroing h]
    simp [enterState_chan, inZeroing]
  obtain ⟨acc, timer, request⟩ := entryContext_yielded_zero (zeroAnswered c s).now
    ((zeroAnswered c s).tables.timingOf c).maxDump ((zeroAnswered c s).chan.nth c)
  obtain ⟨_, offset, _⟩ := entryContext_keeps .yielded (zeroAnswered c s).now
    ((zeroAnswered c s).tables.timingOf c).maxDump ((zeroAnswered c s).chan.nth c)
  rw [Aborted, context, acc, timer, request, offset, zeroAnswered_chan, Row.nth_put_self]
  exact ⟨rfl, rfl, rfl, rfl, rfl⟩

/-- While port U is sending, an abort adds its answer to those that wait. -/
theorem abortIfZeroing_of_sending (c : Chan) {f : Frame} {s : State} (h : s.port.u.tx = .sending f) :
    (abortIfZeroing c s).port.u.tx = .sending f ∧
      (abortIfZeroing c s).upstream.responses = s.upstream.responses ++ (abortAnswer (s.chan.nth c)).toList := by
  by_cases z : (s.chan.nth c).state = .zeroing
  · obtain ⟨port, responses⟩ := zeroAnswered_of_sending h z
    have sending : (enterState c .yielded (zeroAnswered c s)).port.u.tx = .sending f := by simp [port, h]
    obtain ⟨port', responses'⟩ := holdReport_of_sending c sending
    rw [abortIfZeroing_of_zeroing z, port', responses']
    exact ⟨sending, by simp [responses]⟩
  · rw [abortIfZeroing_of_not z, abortAnswer, if_neg z]
    exact ⟨h, (List.append_nil _).symm⟩

/-- Aborts made for a list of channels leave a channel that is not in ZEROING. -/
theorem abortIfZeroing_all_chan_of_not (cs : List Chan) {s : State} {o : Chan} (h : (s.chan.nth o).state ≠ .zeroing) :
    (forChans cs abortIfZeroing s).chan.nth o = s.chan.nth o := by
  refine forChans_preserves (fun t => t.chan.nth o = s.chan.nth o) cs _ s (fun c _ t ht => ?_) rfl
  by_cases e : o = c
  · subst e
    rw [abortIfZeroing_of_not (by rw [ht]; exact h), ht]
  · rw [abortIfZeroing_chan_other t e, ht]

/-- Aborts made for a list of channels abort each calibration of the list. -/
theorem abortIfZeroing_all_aborted {cs : List Chan} {s : State} {o : Chan} (ho : o ∈ cs)
    (h : (s.chan.nth o).state = .zeroing) : Aborted (s.chan.nth o) ((forChans cs abortIfZeroing s).chan.nth o) := by
  induction cs generalizing s with
  | nil => cases ho
  | cons c cs ih =>
    rw [forChans_cons]
    by_cases e : o = c
    · subst e
      have aborted := abortIfZeroing_aborted h
      rwa [abortIfZeroing_all_chan_of_not cs (by rw [aborted.1]; decide)]
    · rw [← abortIfZeroing_chan_other s e] at h ⊢
      exact ih ((List.mem_cons.mp ho).resolve_left e) h

/-- Where no channel is in ZEROING, aborts made for a list of channels do nothing. -/
theorem abortIfZeroing_all_of_none (cs : List Chan) {s : State} (h : ∀ o, (s.chan.nth o).state ≠ .zeroing) :
    forChans cs abortIfZeroing s = s :=
  forChans_preserves (fun t => t = s) cs _ s (fun c _ t ht => by rw [ht]; exact abortIfZeroing_of_not (h c)) rfl

/-- While port U is sending, aborts made for a list of channels add the answers of the contexts found, in the order of the list. -/
theorem abortIfZeroing_all_of_sending {cs : List Chan} {f : Frame} {s : State} {found : Row 6 Channel} (nodup : cs.Nodup)
    (h : s.port.u.tx = .sending f) (stand : ∀ o ∈ cs, s.chan.nth o = found.nth o) :
    (forChans cs abortIfZeroing s).upstream.responses =
      s.upstream.responses ++ cs.filterMap fun o => abortAnswer (found.nth o) := by
  induction cs generalizing s with
  | nil => exact (List.append_nil _).symm
  | cons c cs ih =>
    obtain ⟨fresh, nodup⟩ := List.nodup_cons.mp nodup
    obtain ⟨sending, responses⟩ := abortIfZeroing_of_sending c h
    have others : ∀ o ∈ cs, (abortIfZeroing c s).chan.nth o = found.nth o := fun o ho =>
      (abortIfZeroing_chan_other s (ne_of_mem_of_not_mem ho fresh)).trans (stand o (List.mem_cons_of_mem c ho))
    rw [forChans_cons, ih nodup sending others, responses, stand c List.mem_cons_self, List.append_assoc, List.filterMap_cons]
    cases abortAnswer (found.nth c) <;> rfl

/-! ## The decision at the controller (R122, R124) -/

/-- The model's test of R122. -/
theorem mayFollow_iff (c : Chan) (s : State) :
    mayFollow c s = true ↔ s.control.part.modulating = true ∧ (s.chan.nth c).state = .yielded ∧
      (s.chan.nth c).latch.isEmpty = true ∧ (s.chan.nth c).partnerHold = false ∧ (s.wheel.nth c).speed ≠ none ∧
      (s.wheel.nth c).stale = false ∧ (s.chan.nth c).measured ≠ none ∧ (s.chan.nth c).stale = false := by
  simp only [mayFollow, SpeedRecord.usable, Channel.usable, Bool.and_eq_true, beq_iff_eq, Bool.not_eq_true',
    Option.isSome_iff_ne_none]
  constructor
  · rintro ⟨⟨⟨⟨⟨state, modulating⟩, latch⟩, hold⟩, wheel⟩, pressure⟩
    exact ⟨modulating, state, latch, hold, wheel.1, wheel.2, pressure⟩
  · rintro ⟨modulating, state, latch, hold, speed, fresh, pressure⟩
    exact ⟨⟨⟨⟨⟨state, modulating⟩, latch⟩, hold⟩, speed, fresh⟩, pressure⟩

/-- The state in which the test of R122 leaves its channel. -/
def testedState (c : Chan) (s : State) : ChanState := if mayFollow c s = true then .follow else (s.chan.nth c).state

/-- The test of R122 takes a channel that passes to FOLLOW and leaves any other in its state. -/
theorem leaveYielded_state (c : Chan) (s : State) : ((leaveYielded c s).chan.nth c).state = testedState c s := by
  unfold leaveYielded testedState
  split
  · exact enterState_state c .follow s
  · rfl

/-- The test of R122 for one channel leaves every other's context. -/
theorem leaveYielded_chan_other {c o : Chan} (s : State) (h : o ≠ c) : (leaveYielded c s).chan.nth o = s.chan.nth o := by
  unfold leaveYielded
  split
  · exact enterState_chan_other .follow s h
  · rfl

/-- A channel that fails the test of R122 stays. -/
theorem leaveYielded_of_not {c : Chan} {s : State} (h : mayFollow c s = false) : leaveYielded c s = s := by
  simp [leaveYielded, h]

/-- In SERVICE and DEGRADED a decision moves its channel as R124 says. -/
theorem takeDecision_state (c : Chan) (d : Decision) {s : State} (h : s.control.part.modulating = true) :
    ((takeDecision c d s).chan.nth c).state =
      (decisionMove (s.chan.nth c).state d).getD (s.chan.nth c).state := by
  rw [takeDecision, if_pos h]
  cases decisionMove (s.chan.nth c).state d with
  | none => rfl
  | some st => exact enterState_state c st s

/-- In any other part state it moves none. -/
theorem takeDecision_of_not (c : Chan) (d : Decision) {s : State} (h : s.control.part.modulating = false) :
    takeDecision c d s = s := by
  simp [takeDecision, h]

/-- A decision on one channel leaves every other's context. -/
theorem takeDecision_chan_other {c o : Chan} (d : Decision) (s : State) (h : o ≠ c) :
    (takeDecision c d s).chan.nth o = s.chan.nth o := by
  unfold takeDecision
  split
  · split
    · exact enterState_chan_other _ s h
    · rfl
  · rfl

/-- A decision leaves a YIELDED channel there. -/
theorem takeDecision_of_yielded {c : Chan} (d : Decision) {s : State} (h : (s.chan.nth c).state = .yielded) :
    takeDecision c d s = s := by
  have stays : decisionMove .yielded d = none := by cases d <;> rfl
  simp [takeDecision, h, stays]

/-! ## A speed update in its parts (R86) -/

/-- The reference after steps 1 to 3: Vref updated and followed to and from 0. -/
def followed (t : Time) (s : State) : Reference := followZero s.reference.vref t (updateVref s t)

/-- The state once the controllers have been told of a roll. -/
def rollNoticed (t : Time) (s : State) : State :=
  if rolls s.reference.vref (followed t s).vref then forChans allChans abortIfZeroing { s with reference := followed t s }
  else { s with reference := followed t s }

/-- A channel's slip against the Vref that stands. -/
def formedSlip (c : Chan) (s : State) : Nat := slipOf s.tables.vMin s.reference.vref (s.wheel.nth c).speed

/-- A channel's decision against the Vref that stands. -/
def formedDecision (c : Chan) (s : State) : Decision :=
  decide94 s.tables.vMin s.reference.vref (s.wheel.nth c).speed (s.demand.target.nth c) (s.tables.timingOf c).deadband
    (formedSlip c s) (s.wheel.nth c).decel (selectBand (s.tables.bandsUsed (s.tables.axleOf c)) s.reference.vref)

/-- The state with a channel's slip and decision formed. -/
def formed (c : Chan) (s : State) : State :=
  { s with reference := { s.reference with slip := s.reference.slip.put c (formedSlip c s)
                                           decision := s.reference.decision.put c (formedDecision c s) } }

/-- A speed update takes the decision that is formed, after the test of R122 but for a channel found in ZEROING. -/
theorem speedUpdate_eq (c : Chan) (t : Time) (s : State) :
    speedUpdate c t s =
      takeDecision c (formedDecision c (rollNoticed t s))
        (if (s.chan.nth c).state == .zeroing then formed c (rollNoticed t s)
          else leaveYielded c (formed c (rollNoticed t s))) := rfl

/-- The notice of a roll leaves the tables and the speed records, and the reference as it has been followed. -/
@[simp] theorem rollNoticed_keeps (t : Time) (s : State) :
    (rollNoticed t s).tables = s.tables ∧ (rollNoticed t s).wheel = s.wheel ∧ (rollNoticed t s).reference = followed t s := by
  unfold rollNoticed
  split <;> simp

/-- Forming slip and decision changes the reference alone. -/
@[simp] theorem formed_keeps (c : Chan) (s : State) :
    (formed c s).tables = s.tables ∧ (formed c s).wheel = s.wheel ∧ (formed c s).chan = s.chan ∧
      (formed c s).control = s.control ∧ (formed c s).upstream = s.upstream ∧ (formed c s).management = s.management :=
  ⟨rfl, rfl, rfl, rfl, rfl, rfl⟩

/-- The reference after a speed update. -/
theorem speedUpdate_reference (c : Chan) (t : Time) (s : State) :
    (speedUpdate c t s).reference =
      { followed t s with
        slip := s.reference.slip.put c (formedSlip c (rollNoticed t s))
        decision := s.reference.decision.put c (formedDecision c (rollNoticed t s)) } := by
  rw [speedUpdate_eq]
  split <;> simp [formed, followed]

/-- Vref and its stamp after a speed update are those of R88. -/
theorem speedUpdate_vref (c : Chan) (t : Time) (s : State) :
    (speedUpdate c t s).reference.vref = (updateVref s t).vref ∧
      (speedUpdate c t s).reference.lastUpdate = (updateVref s t).lastUpdate := by
  simp [speedUpdate_reference, followed]

/-- What follows Vref to and from 0 stands so after the update. -/
theorem speedUpdate_followed (c : Chan) (t : Time) (s : State) :
    (speedUpdate c t s).reference.zeroSince = (followed t s).zeroSince ∧
      (speedUpdate c t s).reference.timer = (followed t s).timer ∧
      (speedUpdate c t s).reference.standstill = (followed t s).standstill := by
  simp [speedUpdate_reference]

/-- The channel's slip and decision are formed against the new Vref, with the target that stands after the notice of a roll. -/
theorem speedUpdate_judged (c : Chan) (t : Time) (s : State) :
    (speedUpdate c t s).reference.slip.nth c =
        slipOf s.tables.vMin (speedUpdate c t s).reference.vref (s.wheel.nth c).speed ∧
      (speedUpdate c t s).reference.decision.nth c =
        decide94 s.tables.vMin (speedUpdate c t s).reference.vref (s.wheel.nth c).speed
          ((rollNoticed t s).demand.target.nth c) (s.tables.timingOf c).deadband
          ((speedUpdate c t s).reference.slip.nth c) (s.wheel.nth c).decel
          (selectBand (s.tables.bandsUsed (s.tables.axleOf c)) (speedUpdate c t s).reference.vref) := by
  simp [speedUpdate_reference, formedDecision, formedSlip]

/-- Every other channel's slip and decision stand. -/
theorem speedUpdate_judged_other {c o : Chan} (t : Time) (s : State) (h : o ≠ c) :
    (speedUpdate c t s).reference.slip.nth o = s.reference.slip.nth o ∧
      (speedUpdate c t s).reference.decision.nth o = s.reference.decision.nth o := by
  simp [speedUpdate_reference, Row.nth_put_ne _ _ h.symm]

/-- Vref leaves 0 at the update: the vehicle begins to roll (R89). -/
abbrev BeginsToRoll (c : Chan) (t : Time) (s : State) : Prop :=
  s.reference.vref = some 0 ∧ (speedUpdate c t s).reference.vref ≠ some 0

/-- The update is no roll that finds a calibration to abort. -/
abbrev Calm (c : Chan) (t : Time) (s : State) : Prop := BeginsToRoll c t s → ∀ o : Chan, (s.chan.nth o).state ≠ .zeroing

section Roll

variable {c : Chan} {t : Time} {s : State}

/-- The model's roll is Vref's leaving 0. -/
theorem rolls_followed_iff : rolls s.reference.vref (followed t s).vref = true ↔ BeginsToRoll c t s := by
  rw [rolls_iff, BeginsToRoll, (speedUpdate_vref c t s).1, followed, (followZero_keeps ..).1]
  refine and_congr_right fun h => ⟨?_, fun h' => ?_⟩
  · rintro ⟨v, hv, ne⟩ zero
    exact ne (Option.some.inj (hv.symm.trans zero))
  · obtain ⟨v, hv⟩ := Option.ne_none_iff_exists'.mp (updateVref_vref_ne_none t h)
    exact ⟨v, hv, fun zero => h' (by rw [hv, zero])⟩

/-- In a roll the stamp, the timer and standstill are cleared. -/
theorem speedUpdate_starts (roll : BeginsToRoll c t s) :
    (speedUpdate c t s).reference.zeroSince = none ∧ (speedUpdate c t s).reference.timer = none ∧
      (speedUpdate c t s).reference.standstill = false := by
  obtain ⟨zeroSince, timer, standstill⟩ := speedUpdate_followed c t s
  obtain ⟨zero, v, hv, ne⟩ := (rolls_iff ..).mp (rolls_followed_iff.mpr roll)
  rw [followed, (followZero_keeps ..).1] at hv
  rw [zeroSince, timer, standstill, followed, zero, followZero_starts t hv ne]
  exact ⟨rfl, rfl, rfl⟩

/-- Where a roll finds no calibration, its notice changes nothing. -/
theorem rollNoticed_of_calm (calm : Calm c t s) : rollNoticed t s = { s with reference := followed t s } := by
  unfold rollNoticed
  split
  · rename_i h
    exact abortIfZeroing_all_of_none (s := { s with reference := followed t s }) allChans (calm (rolls_followed_iff.mp h))
  · rfl

/-- Where a roll finds no calibration, the channel takes the test of R122 and then its decision. -/
theorem speedUpdate_of_calm (calm : Calm c t s) :
    speedUpdate c t s =
      takeDecision c ((speedUpdate c t s).reference.decision.nth c)
        (leaveYielded c (formed c { s with reference := followed t s })) := by
  have decided : (speedUpdate c t s).reference.decision.nth c = formedDecision c (rollNoticed t s) := by
    simp [speedUpdate_reference]
  rw [decided, speedUpdate_eq, rollNoticed_of_calm calm]
  split
  · rename_i zeroing
    rw [leaveYielded_of_not]
    simp [mayFollow, beq_iff_eq.mp zeroing]
  · rfl

/-- So in SERVICE and DEGRADED the decision moves the channel on from where the test of R122 leaves it. -/
theorem speedUpdate_state (calm : Calm c t s) (modulating : s.control.part.modulating = true) :
    ((speedUpdate c t s).chan.nth c).state =
      (decisionMove (testedState c s) ((speedUpdate c t s).reference.decision.nth c)).getD (testedState c s) := by
  have parts := speedUpdate_of_calm calm
  generalize (speedUpdate c t s).reference.decision.nth c = d at parts ⊢
  rw [parts, takeDecision_state c d (by simpa using modulating), leaveYielded_state]
  rfl

/-- In any other part state it leaves every channel. -/
theorem speedUpdate_still (calm : Calm c t s) (still : s.control.part.modulating = false) :
    (speedUpdate c t s).chan = s.chan := by
  rw [speedUpdate_of_calm calm, takeDecision_of_not _ _ (by simpa using still), leaveYielded_of_not]
  · rfl
  · simp [mayFollow, still]

/-- It leaves every other channel. -/
theorem speedUpdate_chan_other {o : Chan} (calm : Calm c t s) (h : o ≠ c) :
    (speedUpdate c t s).chan.nth o = s.chan.nth o := by
  rw [speedUpdate_of_calm calm, takeDecision_chan_other _ _ h, leaveYielded_chan_other _ h]
  rfl

/-- It leaves the configuration controller, port U's arbiter and the responder. -/
theorem speedUpdate_quiet (calm : Calm c t s) :
    (speedUpdate c t s).control = s.control ∧ (speedUpdate c t s).upstream = s.upstream ∧
      (speedUpdate c t s).management = s.management := by
  rw [speedUpdate_of_calm calm]
  simp

/-- In a roll every channel found in ZEROING has its calibration aborted, and stays YIELDED at its own update. -/
theorem speedUpdate_aborts (roll : BeginsToRoll c t s) {o : Chan} (h : (s.chan.nth o).state = .zeroing) :
    Aborted (s.chan.nth o) ((speedUpdate c t s).chan.nth o) := by
  have aborted : Aborted (s.chan.nth o) ((formed c (rollNoticed t s)).chan.nth o) := by
    change Aborted _ ((rollNoticed t s).chan.nth o)
    rw [rollNoticed, if_pos (rolls_followed_iff.mpr roll)]
    exact abortIfZeroing_all_aborted (s := { s with reference := followed t s }) (mem_allChans o) h
  by_cases e : o = c
  · subst e
    rw [speedUpdate_eq, if_pos (beq_iff_eq.mpr h), takeDecision_of_yielded _ aborted.1]
    exact aborted
  · rw [speedUpdate_eq, takeDecision_chan_other _ _ e]
    split
    · exact aborted
    · rwa [leaveYielded_chan_other _ e]

/-- In a roll, while port U is sending, every calibration is answered ABORTED, in ascending order of the channels. -/
theorem speedUpdate_answers {f : Frame} (roll : BeginsToRoll c t s) (h : s.port.u.tx = .sending f) :
    (speedUpdate c t s).upstream.responses =
      s.upstream.responses ++ allChans.filterMap fun o => abortAnswer (s.chan.nth o) := by
  have upstream : (speedUpdate c t s).upstream = (rollNoticed t s).upstream := by
    rw [speedUpdate_eq]
    split <;> simp
  rw [upstream, rollNoticed, if_pos (rolls_followed_iff.mpr roll)]
  exact abortIfZeroing_all_of_sending (s := { s with reference := followed t s }) (by decide) h fun _ _ => rfl

end Roll

/-- Settles O50: the reference by R88 and R89, slip and decision by R92 to R94, then the channels with and without calibrations that a
roll aborts. -/
theorem speedUpdates : Obligations.SpeedUpdates := by
  intro c t s u r q w vMin a rolls' calm
  obtain ⟨vref, stamp⟩ : q.vref = (updateVref s t).vref ∧ q.lastUpdate = (updateVref s t).lastUpdate := speedUpdate_vref c t s
  obtain ⟨zeroSince, timer, standstill⟩ : q.zeroSince = (followed t s).zeroSince ∧ q.timer = (followed t s).timer ∧
      q.standstill = (followed t s).standstill := speedUpdate_followed c t s
  obtain ⟨slip, decision⟩ : q.slip.nth c = slipOf vMin q.vref w.speed ∧
      q.decision.nth c = decide94 vMin q.vref w.speed ((rollNoticed t s).demand.target.nth c) (s.tables.timing.nth a).deadband
        (q.slip.nth c) w.decel (selectBand (s.tables.bandsUsed a) q.vref) := speedUpdate_judged c t s
  refine ⟨fun h => ?_, fun o v admitted greatest => ?_, fun zero moved => ?_, speedUpdate_starts, fun same => ?_,
    fun o ho => speedUpdate_judged_other t s ho, fun h => ?_, fun v sp hv hs le => ⟨?_, fun quiet => ⟨?_, ?_⟩⟩,
    fun quiet => ⟨speedUpdate_still quiet, fun modulating => ?_, fun o => speedUpdate_chan_other quiet,
      speedUpdate_quiet quiet⟩,
    fun roll => ⟨fun o => speedUpdate_aborts roll, fun f => speedUpdate_answers roll⟩, by simp [u]⟩
  · rw [vref, stamp, updateVref_of_none t (candidate_eq_none h)]
    exact ⟨rfl, rfl⟩
  · rw [vref, stamp, updateVref_of_some t (candidate_eq_some admitted greatest)]
    exact ⟨rfl, fun first => congrArg some (nextVref_first v t first), fun old last hv hl =>
      ⟨fun le => congrArg some (nextVref_rises hv hl le), fun lt => congrArg some (nextVref_falls hv hl lt)⟩⟩
  · rw [zeroSince, timer, standstill, followed, followZero_stops t moved (vref ▸ zero)]
    simp [r]
  · rw [zeroSince, timer, standstill, followed, followZero_stays t (vref ▸ same)]
    simp [r]
  · exact ⟨slip.trans (slipOf_zero h), decision.trans (decide94_inactive h)⟩
  · rw [slip, hv, hs, slipOf_of_le sp le]
  · intro low
    rw [decision, rollNoticed_of_calm quiet]
    exact decide94_low low
  · intro high xs band ys low used hb holds
    rw [rollNoticed_of_calm quiet, hv, hs, selectBand_used used hb holds, decide94_judged le high] at decision
    refine ⟨fun releases => decision.trans (if_pos releases), fun slow mild => ?_⟩
    have notOver := decision.trans (if_neg (not_or.mpr ⟨Nat.not_le.mpr slow, Int.not_le.mpr mild⟩))
    exact ⟨fun under => notOver.trans (if_pos under), fun within => notOver.trans (if_neg (Nat.not_le.mpr within))⟩
  · intro before
    have tested : testedState c s = before := by
      simp only [testedState, mayFollow_iff, modulating, true_and]
      rfl
    have moved : (u.chan.nth c).state = (decisionMove before (q.decision.nth c)).getD before :=
      tested ▸ speedUpdate_state quiet modulating
    rw [moved]
    cases before <;> cases q.decision.nth c <;> rfl

end Sys2Proof.Machine
end

section
/-! PROOFS. The standstill and the supply timers (R90, R108, R113, R115). -/

namespace Sys2Proof.Machine

open Sys2Proof

/-! ## The beginning of standstill (R90, R115) -/

section Standstill

variable {s : State}

/-- The standstill timer's expiry sets standstill, stops the timer and tells the demand unit. -/
theorem exec_standstillTimerExpiry {e : Time} (h : Due s s.reference.timer e) :
    exec .standstillTimerExpiry s =
      .next (standstillBegins { s with reference := { s.reference with standstill := true, timer := none } }) :=
  congrArg Host.Outcome.next (onDue_of_due h _)

/-- With the door open and a stop hold on a present axle, standstill starts stop hold. -/
theorem standstillBegins_starts (door : s.demand.doorOpen = true) (off : s.demand.stopHold = false)
    (holds : anyStopHold s.tables = true) :
    standstillBegins s = recomputeAll { s with demand := { s.demand with stopHold := true } } := by
  simp [standstillBegins, setStopHold, door, off, holds]

/-- Otherwise it changes nothing in the demand unit. -/
theorem standstillBegins_of_not
    (h : ¬ (s.demand.doorOpen = true ∧ s.demand.stopHold = false ∧ anyStopHold s.tables = true)) : standstillBegins s = s := by
  unfold standstillBegins setStopHold
  split
  · rename_i asked
    obtain ⟨door, holds⟩ := Bool.and_eq_true_iff.mp asked
    exact if_pos ((Bool.eq_false_or_eq_true _).resolve_right fun off => h ⟨door, off, holds⟩)
  · rfl

end Standstill

/-! ## Targets computed again for a list of channels (R110, R113) -/

/-- A target computed again leaves every other channel's slots (R130). -/
theorem retarget_slots_other {c o : Chan} (s : State) (h : o ≠ c) :
    (retarget c s).scheduler.slots.nth o = s.scheduler.slots.nth o := by
  have decided : ∀ t u, (valveDecision t c u).scheduler.slots.nth o = u.scheduler.slots.nth o := fun t u => by
    unfold valveDecision
    dsimp only
    (repeat' split) <;> simp [Row.nth_put_ne _ _ h.symm]
  unfold retarget targetChange
  dsimp only
  (repeat' split) <;> simp [decided]

/-- A list of targets computed again: each channel of the list has the value of the five steps, every other's stands. -/
theorem retarget_all_target (cs : List Chan) (s : State) (o : Chan) :
    (forChans cs retarget s).demand.target.nth o = if o ∈ cs then targetValue s o else s.demand.target.nth o := by
  induction cs generalizing s with
  | nil => rfl
  | cons c cs ih =>
    have value : targetValue (retarget c s) o = targetValue s o := targetValue_congr o (by simp) (by simp) (by simp) (by simp)
      (by simp) (by simp)
    rw [forChans_cons, ih, value, retarget_target]
    by_cases mem : o ∈ cs
    · simp [mem]
    · by_cases e : c = o
      · simp [e]
      · simp [mem, e, Ne.symm e]

/-- A channel outside the list keeps its slots. -/
theorem retarget_all_slots_other {cs : List Chan} {o : Chan} (s : State) (h : o ∉ cs) :
    (forChans cs retarget s).scheduler.slots.nth o = s.scheduler.slots.nth o :=
  forChans_preserves (fun t => t.scheduler.slots.nth o = s.scheduler.slots.nth o) cs _ s
    (fun _ hc t ht => (retarget_slots_other t (ne_of_mem_of_not_mem hc h).symm).trans ht) rfl

/-- A recomputation changes targets and slots alone (R113, R130). -/
theorem recompute_eq (cs : List Chan) (s : State) :
    recompute cs s =
      { s with demand := { s.demand with target := (recompute cs s).demand.target }
               scheduler := { s.scheduler with slots := (recompute cs s).scheduler.slots } } := by
  have kept := recompute_keeps cs s
  generalize recompute cs s = u at kept ⊢
  rcases u with ⟨_, _, _, _, _, _, _, _, _, _, _, ⟨⟩, _, ⟨⟩⟩
  simp_all

/-! ## The expiry of a supply (R108) -/

section Supply

variable {a : Axle} {e : Time} {s : State}

/-- The axle's supply absent, its timer stopped and its low condition as it was. -/
def supplyExpired (a : Axle) (s : State) : State := s.modifySupply a fun r => { r with supply := none, timer := none }

/-- The supply timer's expiry makes the supply absent and recomputes the axle's targets. -/
theorem exec_supplyTimerExpiry (h : Due s (s.demand.supply.nth a).timer e) :
    exec (.supplyTimerExpiry a) s = .next (recompute (s.tables.chansOf a) (supplyExpired a s)) :=
  congrArg Host.Outcome.next (onDue_of_due h _)

/-- In SERVICE and DEGRADED the targets of the axle's mapped channels are those of the state without the supply. -/
theorem supplyExpired_targets (modulating : s.control.part.modulating = true) {c : Chan} (mapped : s.tables.mapped c = true)
    (axle : s.tables.axleOf c = a) :
    (recompute (s.tables.chansOf a) (supplyExpired a s)).demand.target.nth c =
      targetValue (recompute (s.tables.chansOf a) (supplyExpired a s)) c := by
  have value := targetValue_congr (s := recompute (s.tables.chansOf a) (supplyExpired a s)) (t := supplyExpired a s) c
    (by simp) (by simp) (by simp) (by simp) (by simp) (by simp)
  rw [value, recompute, if_pos (by exact modulating), retarget_all_target]
  exact if_pos ((mem_chansOf ..).mpr ⟨mapped, axle⟩)

/-- Elsewhere, and for every other channel, the target and the slots stand. -/
theorem supplyExpired_others {c : Chan}
    (h : s.control.part.modulating = false ∨ s.tables.mapped c = false ∨ s.tables.axleOf c ≠ a) :
    (recompute (s.tables.chansOf a) (supplyExpired a s)).demand.target.nth c = s.demand.target.nth c ∧
      (recompute (s.tables.chansOf a) (supplyExpired a s)).scheduler.slots.nth c = s.scheduler.slots.nth c := by
  unfold recompute
  split
  · rename_i modulating
    have outside : c ∉ s.tables.chansOf a := by
      rw [mem_chansOf]
      rintro ⟨mapped, axle⟩
      rcases h with still | unmapped | other
      · exact absurd (modulating.symm.trans still) (by decide)
      · exact absurd (mapped.symm.trans unmapped) (by decide)
      · exact other axle
    exact ⟨(retarget_all_target ..).trans (if_neg outside), retarget_all_slots_other _ outside⟩
  · exact ⟨rfl, rfl⟩

end Supply

/-- Settles O28: stop hold by whether it has all that R115 asks; the supply's targets channel by channel. -/
theorem standstillAndSupply : Obligations.StandstillAndSupply := by
  refine ⟨fun e s due => ?_, fun a e s due => ?_⟩
  · intro s' holds
    rw [exec_standstillTimerExpiry due]
    refine ⟨fun h => ?_, fun ⟨door, off, h⟩ => ?_⟩
    · rw [standstillBegins_of_not]
      rintro ⟨door, off, h'⟩
      exact h ⟨door, off, (anyStopHold_iff _).mp h'⟩
    · exact congrArg Host.Outcome.next (standstillBegins_starts (s := s') door off ((anyStopHold_iff _).mpr h))
  · refine ⟨_, exec_supplyTimerExpiry due, by simp [supplyExpired], fun modulating c => supplyExpired_targets modulating,
      fun c => supplyExpired_others, ?_⟩
    rw [recompute_eq]
    rfl

end Sys2Proof.Machine
end

section
/-! PROOFS. The one interpolation rule: the segment an x falls in, the value between two points and its bounds (R106). -/

namespace Sys2Proof.Machine

open Sys2Proof

/-! ## The segment an x falls in -/

section Segment

variable {p q : Nat × Nat} {x : Nat}

@[simp] theorem interpolateFrom_nil (p : Nat × Nat) (x : Nat) : interpolateFrom p [] x = p.2 := rfl

theorem interpolateFrom_of_lt (rest : List (Nat × Nat)) (h : x < q.1) : interpolateFrom p (q :: rest) x = between p q x :=
  if_pos h

theorem interpolateFrom_of_le (rest : List (Nat × Nat)) (h : q.1 ≤ x) :
    interpolateFrom p (q :: rest) x = interpolateFrom q rest x :=
  if_neg (Nat.not_lt.mpr h)

/-- At its first point's own x a segment has that point's y. -/
@[simp] theorem between_self (p q : Nat × Nat) : between p q p.1 = p.2 := by simp [between]

/-- The points whose x lies at or below the one asked for are passed over. -/
theorem interpolateFrom_append (xs rest : List (Nat × Nat)) (below : ∀ r ∈ xs, r.1 ≤ x) (passed : q.1 ≤ x) :
    interpolateFrom p (xs ++ q :: rest) x = interpolateFrom q rest x := by
  induction xs generalizing p with
  | nil => exact interpolateFrom_of_le rest passed
  | cons r xs ih =>
    obtain ⟨first, others⟩ := List.forall_mem_cons.mp below
    exact (interpolateFrom_of_le _ first).trans (ih others)

/-- At a point's own x the value is its y, where the x of every later point is greater. -/
theorem interpolateFrom_self (rest : List (Nat × Nat)) (above : ∀ r ∈ rest, p.1 < r.1) : interpolateFrom p rest p.1 = p.2 := by
  cases rest with
  | nil => rfl
  | cons q rest => exact (interpolateFrom_of_lt rest (above q List.mem_cons_self)).trans (between_self p q)

/-- Over points of strictly rising x, the value at an x that a point does not exceed depends on that point and those after it. -/
theorem interpolate_append (xs rest : List (Nat × Nat)) (rising : ((xs ++ q :: rest).map Prod.fst).Pairwise (· < ·))
    (passed : q.1 ≤ x) : interpolate (xs ++ q :: rest) x = interpolateFrom q rest x := by
  rw [List.pairwise_map] at rising
  cases xs with
  | nil =>
    rcases Nat.eq_or_lt_of_le passed with rfl | beyond
    · exact (if_pos (Nat.le_refl _)).trans (interpolateFrom_self rest fun _ => List.rel_of_pairwise_cons rising).symm
    · exact if_neg (Nat.not_le.mpr beyond)
  | cons r xs =>
    have before : ∀ t ∈ r :: xs, t.1 < q.1 := fun t ht => (List.pairwise_append.mp rising).2.2 t ht q List.mem_cons_self
    have beyond : r.1 < x := Nat.lt_of_lt_of_le (before r List.mem_cons_self) passed
    exact (if_neg (Nat.not_le.mpr beyond)).trans (interpolateFrom_append xs rest
      (fun t ht => Nat.le_trans (Nat.le_of_lt (before t (List.mem_cons_of_mem _ ht))) passed) passed)

end Segment

/-! ## The value between two points -/

/-- A share below 1 of a positive height, truncated, is at least 0 and below the height. -/
theorem share_bounds {n d k : Int} (nonneg : 0 ≤ n) (inside : n < d) (height : 0 < k) :
    0 ≤ (n * k).tdiv d ∧ (n * k).tdiv d < k := by
  have product : 0 ≤ n * k := Int.mul_nonneg nonneg (Int.le_of_lt height)
  rw [Int.tdiv_eq_ediv_of_nonneg product]
  refine ⟨Int.ediv_nonneg product (by omega), Int.ediv_lt_of_lt_mul (by omega) ?_⟩
  rw [Int.mul_comm k]
  exact Int.mul_lt_mul_of_pos_right inside height

section Between

variable {p q : Nat × Nat} {x : Nat}

/-- The value between two points before it is known to be one: R106's sum over the integers. -/
def betweenInt (p q : Nat × Nat) (x : Nat) : Int :=
  (p.2 : Int) + (((x : Int) - (p.1 : Int)) * ((q.2 : Int) - (p.2 : Int))).tdiv ((q.1 : Int) - (p.1 : Int))

/-- On a rising segment the sum reaches from the lower y to below the upper. -/
theorem betweenInt_rising (passed : p.1 ≤ x) (ahead : x < q.1) (rises : p.2 < q.2) :
    (p.2 : Int) ≤ betweenInt p q x ∧ betweenInt p q x < q.2 := by
  obtain ⟨low, high⟩ := share_bounds (n := x - p.1) (d := q.1 - p.1) (k := q.2 - p.2) (by omega) (by omega) (by omega)
  unfold betweenInt
  omega

/-- On a falling segment it reaches from the upper y down to above the lower: the quotient is truncated toward zero. -/
theorem betweenInt_falling (passed : p.1 ≤ x) (ahead : x < q.1) (falls : q.2 < p.2) :
    (q.2 : Int) < betweenInt p q x ∧ betweenInt p q x ≤ p.2 := by
  obtain ⟨low, high⟩ := share_bounds (n := x - p.1) (d := q.1 - p.1) (k := p.2 - q.2) (by omega) (by omega) (by omega)
  have turned : ((x : Int) - p.1) * ((q.2 : Int) - p.2) = -(((x : Int) - p.1) * ((p.2 : Int) - q.2)) := by
    rw [← Int.mul_neg, Int.neg_sub]
  unfold betweenInt
  rw [turned, Int.neg_tdiv]
  omega

/-- On a level segment it is the one y. -/
theorem betweenInt_level (level : p.2 = q.2) : betweenInt p q x = p.2 := by simp [betweenInt, level]

/-- The sum is never negative, so the value between two points is the sum itself. -/
theorem between_eq (passed : p.1 ≤ x) (ahead : x < q.1) : (between p q x : Int) = betweenInt p q x := by
  refine Int.toNat_of_nonneg ?_
  change 0 ≤ betweenInt p q x
  rcases Nat.lt_trichotomy p.2 q.2 with rises | level | falls
  · have := betweenInt_rising passed ahead rises
    omega
  · rw [betweenInt_level level]
    omega
  · have := betweenInt_falling passed ahead falls
    omega

end Between

/-- Settles O24: the ends by the points passed over, the middle by the segment x falls in, rising or falling. -/
theorem interpolation : Obligations.Interpolation := by
  intro points x rising
  refine ⟨fun p head passed => ?_, fun p last passed => ?_, fun xs p q ys split passed ahead => ?_⟩
  · obtain ⟨rest, rfl⟩ := List.head?_eq_some_iff.mp head
    exact if_pos passed
  · obtain ⟨xs, rfl⟩ := List.getLast?_eq_some_iff.mp last
    exact interpolate_append xs [] rising passed
  · subst split
    have value : (interpolate (xs ++ p :: q :: ys) x : Int) = betweenInt p q x := by
      rw [interpolate_append xs (q :: ys) rising passed, interpolateFrom_of_lt ys ahead, between_eq passed ahead]
    refine ⟨value, fun rises => ?_, fun falls => ?_⟩
    · have := betweenInt_rising passed ahead rises
      omega
    · have := betweenInt_falling passed ahead falls
      omega

end Sys2Proof.Machine
end

section
/-! PROOFS. The target in five steps, and the valve decisions a recomputation makes (R105, R107, R110, R111, R113, R130). -/

namespace Sys2Proof.Machine

open Sys2Proof

/-! ## The other channel of an axle (R111) -/

/-- The other channel is a mapped one of the same axle on the other side. -/
theorem otherChannel_spec {t : Tables} {c o : Chan} (h : t.otherChannel c = some o) :
    t.mapped o = true ∧ t.axleOf o = t.axleOf c ∧ (t.wheelMap.nth o).side ≠ (t.wheelMap.nth c).side := by
  simpa [and_assoc] using List.find?_some h

/-- Where there is such a channel, there is another channel. -/
theorem otherChannel_ne_none {t : Tables} {c o : Chan} (mapped : t.mapped o = true) (axle : t.axleOf o = t.axleOf c)
    (side : (t.wheelMap.nth o).side ≠ (t.wheelMap.nth c).side) : t.otherChannel c ≠ none := by
  intro absent
  have := List.find?_eq_none.mp absent o (mem_allChans o)
  simp [mapped, axle, side] at this

/-! ## The five steps (R110, R111) -/

section Steps

variable {s : State} {a : Axle} {c o : Chan}

/-- The effective load is the axle's load sample (R105). -/
theorem effectiveLoad_of_sample {l : Nat} (sample : s.demand.load.nth a = some l) : effectiveLoad s a = l := by
  simp [effectiveLoad, sample]

/-- Without a sample it is a static load other than 0. -/
theorem effectiveLoad_of_static {n : Nat} (sample : s.demand.load.nth a = none)
    (static : (s.tables.axle.nth a).staticLoad = n + 1) : effectiveLoad s a = n + 1 := by
  simp [effectiveLoad, sample, static]

/-- Without either it is the x of the last used load point. -/
theorem effectiveLoad_of_last {l : Nat} (sample : s.demand.load.nth a = none)
    (static : (s.tables.axle.nth a).staticLoad = 0) (last : (s.tables.loadUsed a).getLast?.map Prod.fst = some l) :
    effectiveLoad s a = l := by
  obtain ⟨p, point, rfl⟩ := Option.map_eq_some_iff.mp last
  simp [effectiveLoad, sample, static, point]

/-- Without a demand the base is that of demand 0. -/
theorem targetBase_eq (s : State) (a : Axle) :
    targetBase s a =
      s.demand.demand.getD 0 * (s.tables.axle.nth a).pFull * interpolate (s.tables.loadUsed a) (effectiveLoad s a) / 1000000 := by
  unfold targetBase gain
  cases s.demand.demand <;> simp

/-- A stop hold of 0 raises nothing, so its being unset needs no case of its own. -/
theorem withStopHold_eq (s : State) (a : Axle) (v : Nat) :
    withStopHold s a v = if s.demand.stopHold = true then max v (s.tables.aux.nth a).stopHold else v := by
  unfold withStopHold
  cases s.demand.stopHold with
  | false => simp
  | true => by_cases unset : (s.tables.aux.nth a).stopHold = 0 <;> simp [unset]

/-- Slip control is one of the three states DUMP, HOLD and REAPPLY (R111). -/
theorem slipControl_iff (st : ChanState) : st.slipControl = true ↔ st = .dump ∨ st = .hold ∨ st = .reapply := by
  cases st <;> decide

/-- The other channel `o`, under YAW_LIMIT and under slip control with a measured pressure `m`, limits the channel's target (R111). -/
def YawLimitedBy (s : State) (c o : Chan) (m : Nat) : Prop :=
  (s.tables.axle.nth (s.tables.axleOf c)).pair = .yawLimit ∧ s.tables.otherChannel c = some o ∧
    ((s.chan.nth o).state = .dump ∨ (s.chan.nth o).state = .hold ∨ (s.chan.nth o).state = .reapply) ∧
    (s.chan.nth o).measured = some m

/-- The limit is the other channel's pressure and the axle's yaw margin. -/
theorem withYaw_limited {m : Nat} (v : Nat) (h : YawLimitedBy s c o m) :
    withYaw s c v = min v (m + (s.tables.aux.nth (s.tables.axleOf c)).yawMargin) := by
  obtain ⟨pair, other, slip, measured⟩ := h
  simp [withYaw, pair, other, (slipControl_iff _).mpr slip, measured]

/-- Where no channel limits it, the value of the steps before stands. -/
theorem withYaw_free (v : Nat) (h : ¬ ∃ o m, YawLimitedBy s c o m) : withYaw s c v = v := by
  unfold withYaw
  split
  · rename_i pair
    split
    · rename_i o other
      split
      · rename_i slip
        split
        · rename_i m measured
          exact absurd ⟨o, m, pair, other, (slipControl_iff _).mp slip, measured⟩ h
        · rfl
      · rfl
    · rfl
  · rfl

end Steps

/-! ## The valve decisions of a recomputation (R113, R130) -/

section Decisions

variable {s u : State} {c o : Chan}

/-- A usable pressure is present and not stale (R118). -/
theorem Channel.usable_iff {x : Channel} : x.usable = true ↔ x.measured ≠ none ∧ x.stale = false := by
  simp [Channel.usable, Option.isSome_iff_ne_none]

/-- The channel is passed a changed target: it is in FOLLOW or REAPPLY with a usable pressure, and its target is to change (R130). -/
def PassedTarget (s : State) (c : Chan) : Prop :=
  targetValue s c ≠ s.demand.target.nth c ∧
    ((s.chan.nth c).state = .follow ∨ (s.chan.nth c).state = .reapply) ∧ (s.chan.nth c).usable = true

/-- A decision writes the channel's slots from the tables, the channels, the channel's target and the slots alone (R129). -/
theorem valveDecision_slots_congr (t : Time) (tables : s.tables = u.tables) (chan : s.chan = u.chan)
    (target : s.demand.target.nth c = u.demand.target.nth c) (slots : s.scheduler.slots.nth c = u.scheduler.slots.nth c) :
    (valveDecision t c s).scheduler.slots.nth c = (valveDecision t c u).scheduler.slots.nth c := by
  unfold valveDecision
  simp only [tables, chan, target]
  (repeat' split) <;> simp [slots]

/-- What a target is computed from, computing one leaves as it was. -/
theorem targetValue_retarget (c o : Chan) (s : State) : targetValue (retarget c s) o = targetValue s o :=
  targetValue_congr o (by simp) (by simp) (by simp) (by simp) (by simp) (by simp)

/-- A target computed again that is passed to its channel has the channel decide on it (R130). -/
theorem retarget_slots_of_passed (h : PassedTarget s c) :
    (retarget c s).scheduler.slots.nth c =
      (valveDecision s.now c (setTarget c (targetValue s c) s)).scheduler.slots.nth c := by
  obtain ⟨changed, controls, usable⟩ := h
  simp [retarget, targetChange, Ne.symm changed, controls, usable]

/-- One that is not passed leaves the channel's slots. -/
theorem retarget_slots_of_not_passed (h : ¬ PassedTarget s c) :
    (retarget c s).scheduler.slots.nth c = s.scheduler.slots.nth c := by
  unfold retarget
  split
  · rfl
  · rename_i changed
    have still : ¬ (((s.chan.nth c).state = .follow ∨ (s.chan.nth c).state = .reapply) ∧ (s.chan.nth c).usable = true) :=
      fun decides => h ⟨Ne.symm changed, decides⟩
    simp [targetChange, still]

/-- A target once computed is not passed a second time. -/
theorem not_passedTarget_retarget (s : State) (c : Chan) : ¬ PassedTarget (retarget c s) c := by
  rintro ⟨changed, -⟩
  rw [retarget_target, if_pos rfl] at changed
  exact changed (targetValue_retarget c c s)

/-- Another channel's computation does not bear on whether a channel is passed its target. -/
theorem passedTarget_retarget_other (s : State) (h : c ≠ o) : PassedTarget (retarget c s) o ↔ PassedTarget s o := by
  simp [PassedTarget, targetValue_retarget, retarget_target, h]

/-- A channel that is passed no target keeps its slots through a list of computations. -/
theorem retarget_all_slots_of_not_passed (cs : List Chan) (h : ¬ PassedTarget s o) :
    (forChans cs retarget s).scheduler.slots.nth o = s.scheduler.slots.nth o := by
  refine (forChans_preserves (fun t => ¬ PassedTarget t o ∧ t.scheduler.slots.nth o = s.scheduler.slots.nth o) cs retarget s
    (fun c _ t ⟨unpassed, slots⟩ => ?_) ⟨h, rfl⟩).2
  by_cases same : c = o
  · subst same
    exact ⟨not_passedTarget_retarget t c, (retarget_slots_of_not_passed unpassed).trans slots⟩
  · exact ⟨mt (passedTarget_retarget_other t same).mp unpassed, (retarget_slots_other t (Ne.symm same)).trans slots⟩

/-- A channel of a list that is passed its target decides once, on the new value, wherever it stands in the list. -/
theorem retarget_all_slots_of_passed {cs : List Chan} (mem : o ∈ cs) (h : PassedTarget s o) :
    (forChans cs retarget s).scheduler.slots.nth o =
      (valveDecision s.now o (setTarget o (targetValue s o) s)).scheduler.slots.nth o := by
  induction cs generalizing s with
  | nil => cases mem
  | cons c cs ih =>
    rw [forChans_cons]
    by_cases same : c = o
    · subst same
      exact (retarget_all_slots_of_not_passed cs (not_passedTarget_retarget s c)).trans (retarget_slots_of_passed h)
    · have later := ih ((List.mem_cons.mp mem).resolve_left (Ne.symm same)) ((passedTarget_retarget_other s same).mpr h)
      have now : (retarget c s).now = s.now := by simp
      rw [later, targetValue_retarget, now]
      exact valveDecision_slots_congr s.now (by simp) (by simp) (by simp) (by simpa using retarget_slots_other s (Ne.symm same))

end Decisions

/-! ## A recomputation (R113) -/

section Recompute

variable {s : State} {cs : List Chan} {c : Chan}

/-- In SERVICE and DEGRADED a recomputation computes each target of its list. -/
theorem recompute_modulating (modulating : s.control.part.modulating = true) : recompute cs s = forChans cs retarget s :=
  if_pos modulating

/-- In any other part state it does nothing. -/
theorem recompute_not_modulating (still : s.control.part.modulating = false) : recompute cs s = s :=
  if_neg (ne_true_of_eq_false still)

/-- A channel outside the list, or passed no target, keeps its slots. -/
theorem recompute_slots_of_not_passed (modulating : s.control.part.modulating = true) (h : ¬ (c ∈ cs ∧ PassedTarget s c)) :
    (recompute cs s).scheduler.slots.nth c = s.scheduler.slots.nth c := by
  rw [recompute_modulating modulating]
  by_cases mem : c ∈ cs
  · exact retarget_all_slots_of_not_passed cs fun passed => h ⟨mem, passed⟩
  · exact retarget_all_slots_other s mem

/-- A channel of the list that is passed its target decides under the targets the recomputation leaves. -/
theorem recompute_slots_of_passed (modulating : s.control.part.modulating = true) (mem : c ∈ cs) (h : PassedTarget s c) :
    (recompute cs s).scheduler.slots.nth c =
      (valveDecision s.now c
        { s with demand := { s.demand with target := (recompute cs s).demand.target } }).scheduler.slots.nth c := by
  have target : (recompute cs s).demand.target.nth c = targetValue s c := by
    rw [recompute_modulating modulating, retarget_all_target, if_pos mem]
  have decided : (recompute cs s).scheduler.slots.nth c =
      (valveDecision s.now c (setTarget c (targetValue s c) s)).scheduler.slots.nth c := by
    rw [recompute_modulating modulating, retarget_all_slots_of_passed mem h]
  exact decided.trans (valveDecision_slots_congr s.now rfl rfl (by simp [target]) rfl)

end Recompute

/-- Settles O22: the five steps one by one, then a recomputation channel by channel. -/
theorem targets : Obligations.Targets := by
  refine ⟨fun s c => ?_, fun cs s => ⟨recompute_not_modulating, fun modulating => ⟨fun c => ?_, fun c => ⟨?_, ?_⟩, ?_⟩⟩⟩
  · intro a load l present base held ceiling supplied
    have effective : effectiveLoad s a = l := by
      simp only [load] at present
      split at present
      · exact (effectiveLoad_of_sample ‹_›).trans (Option.some.inj present)
      · exact (effectiveLoad_of_static ‹_› ‹_›).trans (Option.some.inj present)
      · exact effectiveLoad_of_last ‹_› ‹_› present
    have raised : withStopHold s a (targetBase s a) = held := by
      rw [withStopHold_eq, targetBase_eq, effective]
    have value : targetValue s c = withYaw s c supplied := by
      change withYaw s c (withSupply s a (min (withStopHold s a (targetBase s a)) (s.tables.axle.nth a).pMax)) = _
      rw [raised]
      rfl
    exact ⟨fun o m pair other slip measured => value.trans (withYaw_limited _ ⟨pair, other, slip, measured⟩),
      fun free => value.trans (withYaw_free _ free), fun o other => otherChannel_spec other,
      fun o mapped axle side => otherChannel_ne_none mapped axle side⟩
  · rw [recompute_modulating modulating, retarget_all_target]
  · intro unpassed
    exact recompute_slots_of_not_passed modulating fun ⟨mem, changed, controls, usable⟩ =>
      unpassed ⟨mem, changed, controls, (Channel.usable_iff.mp usable).2⟩
  · intro ⟨mem, changed, controls, fresh⟩ measured
    exact recompute_slots_of_passed modulating mem ⟨changed, controls, Channel.usable_iff.mpr ⟨measured, fresh⟩⟩
  · exact recompute_eq cs s

end Sys2Proof.Machine
end

section
/-! PROOFS. The valve decision in every channel state, and the end of a settle window with its track check (R129, R132, R144). -/

namespace Sys2Proof.Machine

open Sys2Proof

/-! ## The limits of a pulse and the pressure loop (R129) -/

section Loop

variable {e : TimingEntry} {mode : Mode} {p : Nat} {curve : List (Nat × Nat)} {st : ChanState} {target measured : Nat}

/-- Below the min pulse the command is CLOSE 0. -/
theorem limitPulse_of_short (short : p < e.minPulse) : limitPulse e mode p = { mode := .close, pulse := 0 } := if_pos short

/-- From the min pulse up to the period the pulse stands. -/
theorem limitPulse_of_within (long : e.minPulse ≤ p) (ends : p < e.period) : limitPulse e mode p = { mode := mode, pulse := p } :=
  (if_neg (Nat.not_lt.mpr long)).trans (if_neg (Nat.not_le.mpr ends))

/-- From the period on the pulse is the whole cycle. -/
theorem limitPulse_of_whole (long : e.minPulse ≤ p) (whole : e.period ≤ p) :
    limitPulse e mode p = { mode := mode, pulse := 255 } :=
  (if_neg (Nat.not_lt.mpr long)).trans (if_pos whole)

/-- More than the deadband below the target the loop fills, in REAPPLY up to the axle's cap. -/
theorem loopCommand_of_low (low : measured + e.deadband < target) :
    loopCommand e curve st target measured =
      limitPulse e .fill
        (if st = .reapply then min (interpolate curve (target - measured)) e.reapplyMax
         else interpolate curve (target - measured)) :=
  if_pos low

/-- More than the deadband above the target it vents. -/
theorem loopCommand_of_high (high : target + e.deadband < measured) :
    loopCommand e curve st target measured = limitPulse e .vent (interpolate curve (measured - target)) :=
  (if_neg (by omega)).trans (if_pos high)

/-- Within the deadband it closes. -/
theorem loopCommand_of_near (above : target ≤ measured + e.deadband) (below : measured ≤ target + e.deadband) :
    loopCommand e curve st target measured = { mode := .close, pulse := 0 } :=
  (if_neg (Nat.not_lt.mpr above)).trans (if_neg (Nat.not_lt.mpr below))

end Loop

/-! ## The decision by the channel's state (R129, R144) -/

section Decision

variable {t : Time} {c : Chan} {s u : State}

/-- A state made by a write to a channel's pending slot: the command is pending and written, the active one stands, and nothing else
has changed (R144). -/
theorem written_of_eq_writePending {x : Command} (h : u = writePending c x s) :
    (u.scheduler.slots.nth c).pendingCommand = x ∧ (u.scheduler.slots.nth c).written = true ∧
      (u.scheduler.slots.nth c).activeCommand = (s.scheduler.slots.nth c).activeCommand ∧
      u = { s with scheduler := { s.scheduler with slots := s.scheduler.slots.put c (u.scheduler.slots.nth c) } } := by
  subst h
  rw [writePending_slots, Row.nth_put_self]
  exact ⟨SlotPair.write_pending .., SlotPair.write_written .., SlotPair.write_active .., rfl⟩

/-- In DUMP the decision writes VENT 255. -/
theorem valveDecision_of_dump (h : (s.chan.nth c).state = .dump) : valveDecision t c s = writePending c ventFull s := by
  simp [valveDecision, h]

/-- In a state that neither dumps nor controls, within a settle window or without a measured pressure nothing is written. -/
theorem valveDecision_of_still (notDump : (s.chan.nth c).state ≠ .dump)
    (h : ¬ ((s.chan.nth c).state = .follow ∨ (s.chan.nth c).state = .reapply) ∨ settling t (s.chan.nth c) = true ∨
      (s.chan.nth c).measured = none) : valveDecision t c s = s := by
  cases state : (s.chan.nth c).state
  case dump => exact absurd state notDump
  case follow | reapply =>
    rcases h with idle | settles | absent
    · simp [state] at idle
    · simp [valveDecision, state, settles]
    · simp [valveDecision, state, absent]
  case vacant | yielded | hold | zeroing => simp only [valveDecision, state]

/-- In FOLLOW and REAPPLY, outside a settle window and with a measured pressure, it writes the command of the pressure loop. -/
theorem valveDecision_of_loop {m : Nat} (controls : (s.chan.nth c).state = .follow ∨ (s.chan.nth c).state = .reapply)
    (free : settling t (s.chan.nth c) = false) (measured : (s.chan.nth c).measured = some m) :
    valveDecision t c s =
      writePending c
        (loopCommand (s.tables.timingOf c) (s.tables.valveUsed c) (s.chan.nth c).state (s.demand.target.nth c) m) s := by
  rcases controls with state | state <;> simp [valveDecision, state, free, measured]

end Decision

/-- Settles O23, by the channel's state, then by where the pressure lies to the target and the pulse to its limits. The name of the
statement is the model's own function's. -/
theorem valveDecision_inEveryState : Obligations.ValveDecision := by
  intro t c s x e target fill vent writes controls settles
  have window : settling t x = true ↔ settles := settling_iff t x
  refine ⟨fun dump => written_of_eq_writePending (valveDecision_of_dump dump),
    fun notDump still => valveDecision_of_still notDump (still.imp_right (Or.imp_left window.mpr)), fun control free m measured => ?_⟩
  have decided := valveDecision_of_loop control (Bool.eq_false_iff.mpr (mt window.mp free)) measured
  have writesOf : ∀ y, loopCommand e (s.tables.valveUsed c) x.state target m = y → writes y := fun y h =>
    written_of_eq_writePending (decided.trans (congrArg (writePending c · s) h))
  refine ⟨fun low => ?_, fun high => ?_, fun above below => writesOf _ (loopCommand_of_near above below)⟩
  · have filled : ∀ y, limitPulse e .fill (fill m) = y → writes y := fun y h => writesOf y ((loopCommand_of_low low).trans h)
    exact ⟨fun short => filled _ (limitPulse_of_short short), fun long ends => filled _ (limitPulse_of_within long ends),
      fun long whole => filled _ (limitPulse_of_whole long whole)⟩
  · have vented : ∀ y, limitPulse e .vent (vent m) = y → writes y := fun y h => writesOf y ((loopCommand_of_high high).trans h)
    exact ⟨fun short => vented _ (limitPulse_of_short short), fun long ends => vented _ (limitPulse_of_within long ends),
      fun long whole => vented _ (limitPulse_of_whole long whole)⟩

/-! ## The end of a settle window (R132) -/

section Window

variable {c : Chan} {t : Time} {r n : Nat} {s : State}

/-- The window ended with its track check: settle-until and the track reference absent, the count as given. -/
def trackChecked (c : Chan) (n : Nat) (s : State) : State :=
  s.modifyChan c fun x => { x with settleUntil := none, trackRef := none, trackCount := n }

/-- SETTLE_WINDOW_END, due: the window ends at its settle-until. -/
theorem exec_settleWindowEnd (h : Due s (s.chan.nth c).settleUntil t) :
    exec (.settleWindowEnd c) s = .next (windowEnd c t s) :=
  congrArg Host.Outcome.next (onDue_of_due h _)

/-- Without a track reference the window ends and nothing is checked. -/
theorem windowEnd_of_unchecked (h : (s.chan.nth c).trackRef = none) :
    windowEnd c t s = s.modifyChan c fun x => { x with settleUntil := none } := by
  simp [windowEnd, h]

/-- Outside FOLLOW and REAPPLY the check is dropped and the count kept. -/
theorem windowEnd_of_dropped (reference : (s.chan.nth c).trackRef = some r)
    (idle : ¬ ((s.chan.nth c).state = .follow ∨ (s.chan.nth c).state = .reapply)) :
    windowEnd c t s = trackChecked c (s.chan.nth c).trackCount s := by
  simp only [windowEnd, reference, idle, if_false]
  rfl

/-- A check in FOLLOW or REAPPLY, its result being `n`: the count it leaves, or from 8 on a report with the count back at 0. -/
theorem windowEnd_of_checked (reference : (s.chan.nth c).trackRef = some r)
    (controls : (s.chan.nth c).state = .follow ∨ (s.chan.nth c).state = .reapply)
    (result : trackResult r (s.chan.nth c).measured (s.chan.nth c).trackCount = n) :
    windowEnd c t s =
      if 8 ≤ n then report (reportOf .pressureTrack (.channel c) t none) (trackChecked c 0 s) else trackChecked c n s := by
  simp only [windowEnd, reference, controls, if_true, result]
  rfl

/-- The count returns to 0 where the pressure has risen by 5 or more. -/
theorem trackResult_of_risen {measured : Option Nat} (h : ∃ m, measured = some m ∧ r + 5 ≤ m) : trackResult r measured n = 0 := by
  obtain ⟨m, rfl, risen⟩ := h
  exact if_pos risen

/-- It rises by 1 where it has not. -/
theorem trackResult_of_not_risen {measured : Option Nat} (h : ¬ ∃ m, measured = some m ∧ r + 5 ≤ m) :
    trackResult r measured n = n + 1 := by
  cases measured with
  | none => rfl
  | some m => exact if_neg fun risen => h ⟨m, rfl, risen⟩

end Window

/-- Settles O26, by the track reference, the channel's state, and the check's result. -/
theorem settleWindowEnd : Obligations.SettleWindowEnd := by
  intro c e s due x ended controls risen
  rw [exec_settleWindowEnd due]
  refine ⟨fun absent => congrArg _ (windowEnd_of_unchecked absent), fun r reference =>
    ⟨fun idle => congrArg _ (windowEnd_of_dropped reference idle), fun control rise => ?_, fun control flat few => ?_,
      fun control flat many => ?_⟩⟩
  · exact congrArg _ (windowEnd_of_checked reference control (trackResult_of_risen rise))
  · exact congrArg _ ((windowEnd_of_checked reference control (trackResult_of_not_risen flat)).trans (if_neg (Nat.not_le.mpr few)))
  · exact congrArg _ ((windowEnd_of_checked reference control (trackResult_of_not_risen flat)).trans (if_pos many))

end Sys2Proof.Machine
end

section
/-! PROOFS. A calibration: the tests of ZERO and the start it makes, and the end at ZERO_TIMER_EXPIRY with its three outcomes (R121,
R137, R138, R186). -/

namespace Sys2Proof.Machine

open Sys2Proof

/-! ## Entries into YIELDED and ZEROING (R121) -/

section Entries

variable {c : Chan} {st : ChanState} {x : Command} {s : State}

/-- An entry into YIELDED or ZEROING drops the track check, stops the dump timer and leaves the rest of the context. -/
theorem entryContext_given_up (t : Time) (n : Nat) (x : Channel) (h : st = .yielded ∨ st = .zeroing) :
    ∃ timer, entryContext st t n x = { x with state := st, trackRef := none, trackCount := 0, dumpTimer := timer } := by
  rcases h with rfl | rfl
  all_goals
    unfold entryContext
    dsimp only
    split
    · exact ⟨none, rfl⟩
    · exact ⟨x.dumpTimer, rfl⟩

/-- An entry with an entry command writes it to the channel's pending slot; the other channel's decision leaves it there. -/
theorem enterState_slots_of_command (h : (s.chan.nth c).state ≠ st) (command : entryCommand st = some x) :
    (enterState c st s).scheduler.slots.nth c = (s.scheduler.slots.nth c).write x := by
  have told : ∀ u, (notifyDemand c u).scheduler.slots.nth c = u.scheduler.slots.nth c := fun u => by
    rcases notifyDemand_cases c u with ⟨o, _, _, other, e⟩ | ⟨_, e⟩
    · rw [e, retarget_slots_other u (otherChannel_ne other).symm]
    · rw [e]
  rw [enterState_other h, told]
  simp [entrySlots, command]

end Entries

/-! ## The channel a request names (R136, R137, R180) -/

/-- A channel number below the variant's count names that channel. -/
theorem chanOf_of_val {v : Variant} {n : Nat} {c : Chan} (val : c.val = n) (has : c.val < v.channels) : chanOf v n = some c := by
  subst val
  simp [chanOf, has]

/-- Any other names none. -/
theorem chanOf_of_le {v : Variant} {n : Nat} (h : v.channels ≤ n) : chanOf v n = none := if_neg (Nat.not_lt.mpr h)

/-! ## The tests of ZERO (R137) -/

section Tests

variable {c : Chan} {r : Request} {s : State}

/-- The channel is in a state a calibration may start from (R137). -/
def MayCalibrate (x : Channel) : Prop := x.state = .follow ∨ x.state = .hold ∨ x.state = .yielded

/-- The demand is absent or below 20 (R137). -/
def DemandLow (s : State) : Prop := ∀ d, s.demand.demand = some d → d < 20

theorem MayCalibrate.not_zeroing {x : Channel} (h : MayCalibrate x) : x.state ≠ .zeroing := by
  rcases h with h | h | h <;> simp [h]

/-- The model's third test, of the three states, passes. -/
theorem MayCalibrate.placed {x : Channel} (h : MayCalibrate x) :
    ¬ (x.state ≠ .follow ∧ x.state ≠ .hold ∧ x.state ≠ .yielded) := fun ⟨follow, hold, yielded⟩ =>
  h.elim follow (Or.elim · hold yielded)

theorem zeroTests_uncommitted (h : ¬ s.control.part.committed = true) : zeroTests s c = some .state := by
  simp [zeroTests, h]

theorem zeroTests_busy (part : s.control.part.committed = true) (state : (s.chan.nth c).state = .zeroing) :
    zeroTests s c = some .busy := by
  simp [zeroTests, part, state]

theorem zeroTests_misplaced (part : s.control.part.committed = true) (free : (s.chan.nth c).state ≠ .zeroing)
    (place : ¬ MayCalibrate (s.chan.nth c)) : zeroTests s c = some .state := by
  simp [zeroTests, part, free, by simpa [MayCalibrate] using place]

/-! Where the part state and the channel's state pass, the tests of the latch set, of standstill and of the demand remain. -/

variable (part : s.control.part.committed = true) (place : MayCalibrate (s.chan.nth c))

include part place

theorem zeroTests_latched (latch : (s.chan.nth c).latch.isEmpty = false) : zeroTests s c = some .latched := by
  simp only [zeroTests, part, place.not_zeroing, place.placed, latch]
  rfl

theorem zeroTests_moving (latch : (s.chan.nth c).latch.isEmpty = true) (rolls : s.reference.standstill = false) :
    zeroTests s c = some .moving := by
  simp only [zeroTests, part, place.not_zeroing, place.placed, latch, rolls]
  rfl

theorem zeroTests_demand (latch : (s.chan.nth c).latch.isEmpty = true) (still : s.reference.standstill = true)
    (high : ¬ DemandLow s) : zeroTests s c = some .demand := by
  obtain ⟨d, demand, high⟩ : ∃ d, s.demand.demand = some d ∧ ¬ d < 20 := by simpa [DemandLow] using high
  simp only [zeroTests, part, place.not_zeroing, place.placed, latch, still, demand, high]
  rfl

theorem zeroTests_passed (latch : (s.chan.nth c).latch.isEmpty = true) (still : s.reference.standstill = true)
    (low : DemandLow s) : zeroTests s c = none := by
  cases demand : s.demand.demand with
  | none =>
    simp only [zeroTests, part, place.not_zeroing, place.placed, latch, still, demand]
    rfl
  | some d =>
    simp only [zeroTests, part, place.not_zeroing, place.placed, latch, still, demand, low d demand]
    rfl

omit part place

/-- ZERO for a channel beyond the variant's count is answered BAD_INDEX. -/
theorem exec_zero_badIndex (serving : Serving .zero r s) (h : s.variant.channels ≤ (r.args.getD 0 0).toNat) :
    exec .zero s = .next (answer r .badIndex [] s) := by
  have named : chanOf s.variant (arg r 0) = none := chanOf_of_le h
  refine congrArg Host.Outcome.next ((completeService_serving serving _).trans ?_)
  simp only [named]

/-- ZERO whose tests fail is answered by the first that does. -/
theorem exec_zero_refused {x : ResultCode} (serving : Serving .zero r s) (val : c.val = (r.args.getD 0 0).toNat)
    (has : c.val < s.variant.channels) (tests : zeroTests s c = some x) : exec .zero s = .next (answer r x [] s) := by
  have named : chanOf s.variant (arg r 0) = some c := chanOf_of_val val has
  refine congrArg Host.Outcome.next ((completeService_serving serving _).trans ?_)
  simp only [named, tests]

/-- ZERO whose tests all pass starts a calibration. -/
theorem exec_zero_accepted (serving : Serving .zero r s) (val : c.val = (r.args.getD 0 0).toNat)
    (has : c.val < s.variant.channels) (tests : zeroTests s c = none) : exec .zero s = .next (acceptZero r c s) := by
  have named : chanOf s.variant (arg r 0) = some c := chanOf_of_val val has
  refine congrArg Host.Outcome.next ((completeService_serving serving _).trans ?_)
  simp only [named, tests]

end Tests

/-! ## The start of a calibration (R137) -/

section Start

variable {c : Chan} {r : Request} {s : State}

/-- The state with a calibration's accumulator, timer and request in its channel's context, before the entry into ZEROING. -/
def zeroOpened (r : Request) (c : Chan) (s : State) : State :=
  s.modifyChan c fun x =>
    { x with zeroAcc := some { sum := 0, count := 0, start := s.now }
             zeroTimer := some (s.now + BitVec.ofNat 32 (s.tables.global.nth 7))
             zeroRequest := some { source := r.source, tag := r.tag } }

/-- A start opens the calibration, enters ZEROING, reports whether the channel is held out, and ends the service. -/
theorem acceptZero_eq (r : Request) (c : Chan) (s : State) :
    acceptZero r c s = finishService (holdReport c (enterState c .zeroing (zeroOpened r c s))) := rfl

/-- A start writes the context of its own channel alone: ZEROING, with what it opened and without a track check. -/
theorem acceptZero_chan (free : (s.chan.nth c).state ≠ .zeroing) :
    ∃ timer, (acceptZero r c s).chan =
      s.chan.put c
        { (zeroOpened r c s).chan.nth c with state := .zeroing, trackRef := none, trackCount := 0, dumpTimer := timer } := by
  have opened : ((zeroOpened r c s).chan.nth c).state ≠ .zeroing := by simpa [zeroOpened] using free
  obtain ⟨timer, context⟩ := entryContext_given_up (zeroOpened r c s).now ((zeroOpened r c s).tables.timingOf c).maxDump
    ((zeroOpened r c s).chan.nth c) (.inr rfl : ChanState.zeroing = .yielded ∨ ChanState.zeroing = .zeroing)
  have entered : (acceptZero r c s).chan = (enterState c .zeroing (zeroOpened r c s)).chan := by simp [acceptZero_eq]
  refine ⟨timer, entered.trans ?_⟩
  rw [enterState_chan, if_neg opened, context]
  exact Row.put_put ..

/-- A start writes YIELD 0 to its channel's pending slot. -/
theorem acceptZero_slots (free : (s.chan.nth c).state ≠ .zeroing) :
    (acceptZero r c s).scheduler.slots.nth c = (s.scheduler.slots.nth c).write yieldZero := by
  have opened : ((zeroOpened r c s).chan.nth c).state ≠ .zeroing := by simpa [zeroOpened] using free
  have entry := enterState_slots_of_command opened (rfl : entryCommand .zeroing = some yieldZero)
  simpa [acceptZero_eq, zeroOpened] using entry

/-- While port U is sending, a held-out report frees no response place. -/
theorem holdReport_management_of_sending (c : Chan) {f : Frame} {s : State} (h : s.port.u.tx = .sending f) :
    (holdReport c s).management = s.management := by
  have told : ∀ u : State, u.port.u.tx = .sending f → (partStateChanged u).management = u.management := fun u hu => by
    unfold partStateChanged
    rw [placeNotice_of_sending (by exact hu)]
  have settled : ∀ u : State, u.port.u.tx = .sending f → (settlePart u).management = u.management := fun u hu => by
    unfold settlePart
    split
    · split
      · exact told _ hu
      · rfl
    · split
      · rfl
      · exact told _ hu
    all_goals rfl
  unfold holdReport
  dsimp only
  split
  · rfl
  · exact settled _ h

/-- While port U is sending, a start places no answer, and the responder goes on. -/
theorem acceptZero_of_sending {f : Frame} (h : s.port.u.tx = .sending f) :
    (acceptZero r c s).upstream.responses = s.upstream.responses ∧ (acceptZero r c s).management = nextService s.management := by
  have sending : (enterState c .zeroing (zeroOpened r c s)).port.u.tx = .sending f := by simpa [zeroOpened] using h
  obtain ⟨_, responses⟩ := holdReport_of_sending c sending
  have management := holdReport_management_of_sending c sending
  rw [acceptZero_eq, finishService_eq]
  dsimp only
  rw [responses, management]
  simp [zeroOpened]

end Start

/-- Settles O46: the tests in their order, then what a start makes of the channel, its slots and the responder. -/
theorem zeroRequest : Obligations.ZeroRequest := by
  intro r s serving
  refine ⟨exec_zero_badIndex serving, fun c val has => ?_⟩
  intro x part place low
  have refused : ∀ {y}, zeroTests s c = some y → exec .zero s = .next (answer r y [] s) :=
    exec_zero_refused serving val has
  refine ⟨fun uncommitted => refused (zeroTests_uncommitted uncommitted),
    fun committed zeroing => refused (zeroTests_busy committed zeroing),
    fun committed free misplaced => refused (zeroTests_misplaced committed free misplaced),
    fun committed placed latch => refused (zeroTests_latched committed placed latch),
    fun committed placed latch rolls => refused (zeroTests_moving committed placed latch rolls),
    fun committed placed latch still high => refused (zeroTests_demand committed placed latch still high),
    fun committed placed latch still isLow =>
      ⟨_, exec_zero_accepted serving val has (zeroTests_passed committed placed latch still isLow), ?_⟩⟩
  have free := MayCalibrate.not_zeroing placed
  obtain ⟨timer, chan⟩ := acceptZero_chan (r := r) free
  have own := congrArg (Row.nth · c) chan
  simp only [Row.nth_put_self, zeroOpened, modifyChan_chan] at own
  rw [acceptZero_slots free, own]
  refine ⟨rfl, rfl, rfl, rfl, rfl, rfl, SlotPair.write_pending .., SlotPair.write_written .., fun o other => ?_,
    fun f => acceptZero_of_sending, ?_⟩
  · rw [chan, Row.nth_put_ne _ _ other.symm]
  · simp [acceptZero_eq, zeroOpened]

/-! ## A report of a NOTED kind (R159) -/

section Noted

variable {r : FaultReport} {s : State}

/-- ZERO_RANGE can take the class NOTED alone (R47). -/
theorem policyOf_zeroRange {v : Variant} {t : Tables} (h : TablesInRange v t) : (t.policyOf .zeroRange).cls = .noted :=
  List.mem_singleton.mp (h.policy 15).1

/-- While port U is sending, a change of the fault list leaves it and the answers that wait. -/
theorem faultListChanged_of_sending {f : Frame} (h : s.port.u.tx = .sending f) :
    (faultListChanged s).port.u = s.port.u ∧ (faultListChanged s).upstream.responses = s.upstream.responses := by
  unfold faultListChanged
  split
  · exact ⟨rfl, rfl⟩
  · rw [placeNotice_of_sending (by exact h)]
    exact ⟨rfl, rfl⟩

/-- The state with a report recorded, its class not yet acting (R158). -/
def recorded (r : FaultReport) (s : State) : State :=
  { rearmQuiet r s with monitor := recordInMonitor s.tables r (rearmQuiet r s).monitor }

@[simp] theorem recorded_keeps (r : FaultReport) (s : State) :
    (recorded r s).chan = s.chan ∧ (recorded r s).port = s.port ∧ (recorded r s).upstream = s.upstream := by
  simp [recorded]

/-- All that a report of a NOTED kind can do: the quiet timer alone where it is masked, the report recorded, and the fault list's change
told where it was not refused. -/
theorem report_of_noted_cases (h : (s.tables.policyOf r.kind).cls = .noted) :
    report r s = rearmQuiet r s ∨ report r s = recorded r s ∨ report r s = faultListChanged (recorded r s) := by
  by_cases masked : (s.tables.policyOf r.kind).mask = true
  · exact .inl (report_of_masked h masked)
  · simp only [report, h, masked, Bool.false_eq_true, and_false, if_false, classAction]
    split
    · exact .inr (.inl rfl)
    · exact .inr (.inr rfl)

/-- A report of a NOTED kind acts on no channel. -/
theorem report_of_noted_chan (h : (s.tables.policyOf r.kind).cls = .noted) : (report r s).chan = s.chan := by
  rcases report_of_noted_cases h with e | e | e <;> simp [e]

/-- While port U is sending, a report of a NOTED kind leaves it and the answers that wait. -/
theorem report_of_noted_of_sending {f : Frame} (h : (s.tables.policyOf r.kind).cls = .noted) (sending : s.port.u.tx = .sending f) :
    (report r s).port.u = s.port.u ∧ (report r s).upstream.responses = s.upstream.responses := by
  have told := faultListChanged_of_sending (s := recorded r s) (f := f) (by simpa using sending)
  rcases report_of_noted_cases h with e | e | e <;> simp [e, told]

end Noted

/-! ## Answers that stay placed (R33, R35) -/

section Answers

variable {a : Response} {c : Chan} {s t : State}

/-- Placing an answer places it, and leaves port U sending. -/
theorem placed_placeResponse (a : Response) (s : State) :
    Placed a s (placeResponse a s) ∧ ∃ f, (placeResponse a s).port.u.tx = .sending f := by
  unfold Placed
  cases tx : s.port.u.tx with
  | sending f =>
    rw [placeResponse_of_sending a tx]
    exact ⟨rfl, f, tx⟩
  | idle =>
    refine ⟨fun alone => .inr ?_, ?_⟩
    · rw [placeResponse_of_idle a tx alone]
      exact ⟨alone, rfl⟩
    · obtain ⟨first, rest, waits⟩ : ∃ first rest, s.upstream.responses ++ [a] = first :: rest :=
        List.exists_cons_of_ne_nil (by simp)
      have sends := chooseUp_of_response (s := { s with upstream := { s.upstream with responses := s.upstream.responses ++ [a] } })
        tx waits
      exact ⟨_, by rw [placeResponse, sends]; rfl⟩

/-- An answer is placed by port U and the answers that wait alone. -/
theorem Placed.congr {s' t' : State} (h : Placed a s t) (address : s'.address = s.address) (port : s'.port.u = s.port.u)
    (waiting : s'.upstream.responses = s.upstream.responses) (port' : t'.port.u = t.port.u)
    (waiting' : t'.upstream.responses = t.upstream.responses) : Placed a s' t' := by
  unfold Placed at h ⊢
  rw [address, port, waiting, port', waiting']
  exact h

/-- A channel that enters a state and reports whether it is held out leaves a sending port U and the answers that wait. -/
theorem entered_reported_of_sending (c : Chan) (st : ChanState) {f : Frame} (h : s.port.u.tx = .sending f) :
    (holdReport c (enterState c st s)).port.u = s.port.u ∧
      (holdReport c (enterState c st s)).upstream.responses = s.upstream.responses := by
  have sending : (enterState c st s).port.u.tx = .sending f := by simpa using h
  obtain ⟨port, responses⟩ := holdReport_of_sending c sending
  rw [port, responses]
  simp

end Answers

/-! ## The end of a calibration (R138, R186) -/

section End

variable {c : Chan} {z : ZeroAccumulator} {e : Time} {q : Deferred} {s : State}

/-- The result is OK where there was a sample and the mean is at most 50. -/
theorem zeroResult_ok_iff : zeroResult z = .ok ↔ z.count ≠ 0 ∧ z.sum / z.count ≤ 50 := by
  unfold zeroResult zeroMean
  split
  · simp [*]
  · split <;> simp [*]

/-- The state with ZERO_RANGE reported where the mean is above 50. -/
def zeroJudged (c : Chan) (z : ZeroAccumulator) (e : Time) (s : State) : State :=
  if zeroResult z = .range then report (reportOf .zeroRange (.channel c) e none) s else s

/-- The state with a judged calibration's offset in place and its accumulator, timer and request gone. -/
def zeroClosed (c : Chan) (z : ZeroAccumulator) (e : Time) (s : State) : State :=
  (zeroJudged c z e s).modifyChan c fun x =>
    { x with offset := zeroOffset z x.offset, zeroAcc := none, zeroTimer := none, zeroRequest := none }

/-- The answer of a calibration that has ended. -/
def zeroAnswer (z : ZeroAccumulator) (q : Deferred) : Response :=
  { dest := q.source, code := 13, tag := q.tag, result := zeroResult z, data := zeroData z }

/-- The state in which a calibration that has ended is answered, before its channel yields. -/
def zeroReplied (c : Chan) (z : ZeroAccumulator) (e : Time) (q : Deferred) (s : State) : State :=
  placeResponse (zeroAnswer z q) (zeroClosed c z e s)

/-- An end judges, closes, answers, enters YIELDED and reports whether the channel is held out (log 36). -/
theorem endZero_eq (request : (s.chan.nth c).zeroRequest = some q) :
    endZero c z e s = holdReport c (enterState c .yielded (zeroReplied c z e q s)) := by
  simp only [endZero, request]
  rfl

/-- ZERO_TIMER_EXPIRY, due, with an accumulator: the calibration ends. -/
theorem exec_zeroTimerExpiry (h : Due s (s.chan.nth c).zeroTimer e) (acc : (s.chan.nth c).zeroAcc = some z) :
    exec (.zeroTimerExpiry c) s = .next (endZero c z e s) := by
  refine congrArg Host.Outcome.next ((onDue_of_due h _).trans ?_)
  simp only [acc]

variable (noted : (s.tables.policyOf .zeroRange).cls = .noted)

include noted

/-- The judgement acts on no channel. -/
theorem zeroJudged_chan : (zeroJudged c z e s).chan = s.chan := by
  unfold zeroJudged
  split
  · exact report_of_noted_chan noted
  · rfl

/-- While port U is sending, the judgement leaves it and the answers that wait. -/
theorem zeroJudged_of_sending {f : Frame} (h : s.port.u.tx = .sending f) :
    (zeroJudged c z e s).port.u = s.port.u ∧ (zeroJudged c z e s).upstream.responses = s.upstream.responses := by
  unfold zeroJudged
  split
  · exact report_of_noted_of_sending noted h
  · exact ⟨rfl, rfl⟩

/-- An end writes the context of its own channel alone: YIELDED, the offset by the result, what the calibration needed gone. -/
theorem endZero_chan (request : (s.chan.nth c).zeroRequest = some q) (zeroing : (s.chan.nth c).state = .zeroing) :
    ∃ timer, (endZero c z e s).chan =
      s.chan.put c
        { s.chan.nth c with
          state := .yielded, offset := zeroOffset z (s.chan.nth c).offset, zeroAcc := none, zeroTimer := none
          zeroRequest := none, trackRef := none, trackCount := 0, dumpTimer := timer } := by
  have closed : (zeroReplied c z e q s).chan =
      s.chan.put c
        { s.chan.nth c with
          offset := zeroOffset z (s.chan.nth c).offset, zeroAcc := none, zeroTimer := none, zeroRequest := none } := by
    simp [zeroReplied, zeroClosed, zeroJudged_chan noted]
  have running : ((zeroReplied c z e q s).chan.nth c).state ≠ .yielded := by
    rw [closed, Row.nth_put_self, zeroing]
    decide
  have ended : (endZero c z e s).chan = (enterState c .yielded (zeroReplied c z e q s)).chan := by simp [endZero_eq request]
  obtain ⟨timer, context⟩ := entryContext_given_up (zeroReplied c z e q s).now
    ((zeroReplied c z e q s).tables.timingOf c).maxDump ((zeroReplied c z e q s).chan.nth c)
    (.inl rfl : ChanState.yielded = .yielded ∨ ChanState.yielded = .zeroing)
  refine ⟨timer, ended.trans ?_⟩
  rw [enterState_chan, if_neg running, context, closed, Row.put_put, Row.nth_put_self]

omit noted

/-- The answer of an end is placed after the report and any notice of it (log 36). -/
theorem endZero_placed (request : (s.chan.nth c).zeroRequest = some q) :
    Placed (zeroAnswer z q) (zeroJudged c z e s) (endZero c z e s) := by
  obtain ⟨placed, f, sending⟩ := placed_placeResponse (zeroAnswer z q) (zeroClosed c z e s)
  obtain ⟨port, waiting⟩ := entered_reported_of_sending c .yielded sending
  rw [endZero_eq request]
  exact placed.congr rfl rfl rfl port waiting

/-- What an end leaves as it was, and the monitor as the judgement left it. -/
theorem endZero_keeps (request : (s.chan.nth c).zeroRequest = some q) :
    (endZero c z e s).monitor = (zeroJudged c z e s).monitor ∧ (endZero c z e s).tables = s.tables ∧
      (endZero c z e s).wheel = s.wheel ∧ (endZero c z e s).reference = s.reference ∧
      (endZero c z e s).scheduler.cycle = s.scheduler.cycle := by
  have judged : (zeroJudged c z e s).tables = s.tables ∧ (zeroJudged c z e s).wheel = s.wheel ∧
      (zeroJudged c z e s).reference = s.reference ∧ (zeroJudged c z e s).scheduler.cycle = s.scheduler.cycle := by
    unfold zeroJudged
    split <;> simp
  simp [endZero_eq request, zeroReplied, zeroClosed, judged]

end End

/-- Settles O29: the channel by its context, the answer by where the judgement leaves port U, the rest by what an end keeps. -/
theorem calibrationEnds : Obligations.CalibrationEnds := by
  intro c e z q s due zeroing acc request inRange mean outcome figures
  have noted := policyOf_zeroRange inRange
  obtain ⟨timer, chan⟩ := endZero_chan (z := z) (e := e) noted request zeroing
  have own := congrArg (Row.nth · c) chan
  simp only [Row.nth_put_self] at own
  obtain ⟨monitor, kept⟩ := endZero_keeps (z := z) (e := e) request
  have placed := endZero_placed (z := z) (e := e) request
  refine ⟨_, exec_zeroTimerExpiry due acc, ?_⟩
  rw [own]
  refine ⟨rfl, rfl, rfl, rfl, rfl, ?_, fun o other => ?_, ⟨fun f sending => ?_, fun range => ?_, fun notRange => ?_⟩, kept⟩
  · simp only [zeroOffset, zeroResult_ok_iff]
    rfl
  · rw [chan, Row.nth_put_ne _ _ other.symm]
  · obtain ⟨port, waiting⟩ := zeroJudged_of_sending (c := c) (z := z) (e := e) noted sending
    unfold Placed at placed
    rw [port, sending] at placed
    rw [placed, waiting]
    rfl
  · have judged : zeroJudged c z e s = report (reportOf .zeroRange (.channel c) e none) s := if_pos range
    rw [judged] at monitor placed
    exact ⟨monitor, placed⟩
  · have judged : zeroJudged c z e s = s := if_neg notRange
    rw [judged] at monitor placed
    exact ⟨monitor, placed⟩

end Sys2Proof.Machine
end

section
/-! PROOFS. RESTORE_CHANNEL: the kinds removed from a latch set, the partner holds and the held-out report made again, and the test of
R122 (R122, R134 to R136). -/

namespace Sys2Proof.Machine

open Sys2Proof

/-! ## What a held-out report leaves (R61, R135) -/

/-- A held-out report holds what the channel's state gives. -/
theorem holdReport_heldOut (c : Chan) (s : State) :
    (holdReport c s).control.heldOut.nth c = (s.tables.mapped c && (s.chan.nth c).isHeldOut) := by
  unfold holdReport
  dsimp only
  split
  · assumption
  · simp

/-- A held-out report moves the part between SERVICE and DEGRADED at most. -/
theorem holdReport_modulating (c : Chan) (s : State) :
    (holdReport c s).control.part.modulating = s.control.part.modulating := by
  have settled : ∀ u, (settlePart u).control.part.modulating = u.control.part.modulating := fun u => by
    unfold settlePart
    split
    · split
      · simp [*, PartState.modulating]
      · rfl
    · split
      · rfl
      · simp [*, PartState.modulating]
    all_goals rfl
  unfold holdReport
  dsimp only
  split
  · rfl
  · exact settled _

/-! ## What the partner holds' evaluation does to a channel (R122, R134) -/

section Evaluation

variable {c o : Chan} {s : State}

/-- An entry of one channel leaves whether each channel's pressure is usable. -/
theorem enterState_usable (c o : Chan) (st : ChanState) (s : State) :
    ((enterState c st s).chan.nth o).usable = (s.chan.nth o).usable := by
  have context : ∀ t n x, (entryContext st t n x).usable = x.usable := fun t n x => by
    unfold entryContext
    cases st <;> dsimp only <;> split <;> rfl
  by_cases own : o = c
  · subst own
    rw [enterState_chan]
    split
    · rfl
    · rw [Row.nth_put_self, context]
  · rw [enterState_chan_other _ _ own]

/-- So does the test of R122. -/
theorem leaveYielded_usable (c o : Chan) (s : State) :
    ((leaveYielded c s).chan.nth o).usable = (s.chan.nth o).usable := by
  unfold leaveYielded
  split
  · exact enterState_usable ..
  · rfl

/-- A partner hold put leaves every channel's state and whether its pressure is usable. -/
theorem holdPut_state_usable (c : Chan) (b : Bool) (s : State) (o : Chan) :
    ((holdPut c b s).chan.nth o).state = (s.chan.nth o).state ∧ ((holdPut c b s).chan.nth o).usable = (s.chan.nth o).usable := by
  rw [holdPut, modifyChan_chan, Row.nth_put]
  split
  · rename_i h
    subst h
    exact ⟨rfl, rfl⟩
  · exact ⟨rfl, rfl⟩

/-- How a partner hold's evaluation can move a channel: not at all, to YIELDED, or, in SERVICE and DEGRADED, to FOLLOW. -/
def HoldMove (modulating : Bool) (x y : ChanState) : Prop := y = x ∨ y = .yielded ∨ (modulating = true ∧ y = .follow)

/-- The moves of two evaluations in a row are moves. -/
theorem HoldMove.trans {b : Bool} {x y w : ChanState} (first : HoldMove b x y) (second : HoldMove b y w) : HoldMove b x w := by
  rcases second with rfl | moved
  · exact first
  · exact .inr moved

/-- The test of R122 moves a channel to FOLLOW at most, and in SERVICE and DEGRADED alone. -/
theorem leaveYielded_move (c : Chan) (s : State) :
    HoldMove s.control.part.modulating (s.chan.nth c).state ((leaveYielded c s).chan.nth c).state := by
  rw [leaveYielded_state, testedState]
  split
  · rename_i may
    obtain ⟨modulating, _⟩ := (mayFollow_iff c s).mp may
    exact .inr (.inr ⟨modulating, rfl⟩)
  · exact .inl rfl

/-- What a partner hold's evaluation keeps of a channel and how it can move it, whether or not the hold is the channel's own. -/
structure HoldKept (o : Chan) (s t : State) : Prop where
  modulating : t.control.part.modulating = s.control.part.modulating
  usable : (t.chan.nth o).usable = (s.chan.nth o).usable
  move : HoldMove s.control.part.modulating (s.chan.nth o).state (t.chan.nth o).state

theorem HoldKept.refl (o : Chan) (s : State) : HoldKept o s s := ⟨rfl, rfl, .inl rfl⟩

theorem HoldKept.trans {t u : State} (first : HoldKept o s t) (second : HoldKept o t u) : HoldKept o s u :=
  ⟨second.modulating.trans first.modulating, second.usable.trans first.usable,
    first.move.trans (first.modulating ▸ second.move)⟩

theorem holdPut_kept (c o : Chan) (b : Bool) (s : State) : HoldKept o s (holdPut c b s) :=
  ⟨rfl, (holdPut_state_usable c b s o).2, .inl (holdPut_state_usable c b s o).1⟩

theorem holdReport_kept (c o : Chan) (s : State) : HoldKept o s (holdReport c s) :=
  ⟨holdReport_modulating c s, by simp, .inl (by simp)⟩

theorem enterState_yielded_kept (c o : Chan) (s : State) : HoldKept o s (enterState c .yielded s) := by
  refine ⟨by simp, enterState_usable .., ?_⟩
  by_cases own : o = c
  · subst own
    exact .inr (.inl (enterState_state ..))
  · exact .inl (congrArg Channel.state (enterState_chan_other _ _ own))

theorem leaveYielded_kept (c o : Chan) (s : State) : HoldKept o s (leaveYielded c s) := by
  refine ⟨by simp, leaveYielded_usable .., ?_⟩
  by_cases own : o = c
  · subst own
    exact leaveYielded_move o s
  · exact .inl (congrArg Channel.state (leaveYielded_chan_other _ own))

/-- A partner hold's evaluation is made of these steps. -/
theorem evaluateHold_kept (c o : Chan) (s : State) : HoldKept o s (evaluateHold c s) := by
  rcases evaluateHold_cases c s with ⟨_, e⟩ | e | e | e
  all_goals rw [e]
  · exact .refl o s
  · exact ((holdPut_kept ..).trans (enterState_yielded_kept ..)).trans (holdReport_kept ..)
  · exact (holdPut_kept ..).trans (holdReport_kept ..)
  · exact ((holdPut_kept ..).trans (holdReport_kept ..)).trans (leaveYielded_kept ..)

/-- So is the evaluation of an axle's partner holds. -/
theorem evaluateHolds_kept (a : Axle) (o : Chan) (s : State) : HoldKept o s (evaluateHolds a s) :=
  forChans_preserves (HoldKept o s) _ _ s (fun c _ _ kept => kept.trans (evaluateHold_kept c o _)) (.refl o s)

/-- The test of R122 does not change whether its channel is held out: it moves a channel that is not. -/
theorem leaveYielded_isHeldOut (c : Chan) (s : State) :
    ((leaveYielded c s).chan.nth c).isHeldOut = (s.chan.nth c).isHeldOut := by
  cases may : mayFollow c s with
  | false => rw [leaveYielded_of_not may]
  | true =>
    obtain ⟨_, _, latch, hold, _⟩ := (mayFollow_iff c s).mp may
    obtain ⟨latch', _, hold'⟩ := leaveYielded_holds c s c
    simp [Channel.isHeldOut, latch', hold', latch, hold]

end Evaluation

/-! ## The latch set restored (R136) -/

section Restore

variable {c : Chan} {r : Request} {s : State}

/-- The state with the kinds whose condition is not present removed from the latch set (R136). -/
def unlatched (c : Chan) (s : State) : State := s.modifyChan c fun x => { x with latch := remaining s c }

/-- The state with the partner holds of the channel's axle evaluated after it (R134). -/
def reheld (c : Chan) (s : State) : State := evaluateHolds (s.tables.axleOf c) (unlatched c s)

/-- Where no kind is removed, nothing is done. -/
theorem restore_of_same (h : remaining s c = (s.chan.nth c).latch) : restore c s = s := if_pos h

/-- Where kinds are removed and some are left, the partner holds alone follow. -/
theorem restore_of_left (h : remaining s c ≠ (s.chan.nth c).latch) (left : ¬ (remaining s c).isEmpty = true) :
    restore c s = reheld c s :=
  (if_neg h).trans (if_neg left)

/-- Where none is left, the held-out report and the test of R122 follow after them. -/
theorem restore_of_emptied (h : remaining s c ≠ (s.chan.nth c).latch) (empty : (remaining s c).isEmpty = true) :
    restore c s = leaveYielded c (holdReport c (reheld c s)) :=
  (if_neg h).trans (if_pos empty)

/-- The channel's latch set holds the kinds left, once the partner holds have been evaluated. -/
theorem reheld_latch (c : Chan) (s : State) : ((reheld c s).chan.nth c).latch = remaining s c := by
  obtain ⟨latch, _⟩ := evaluateHolds_holds (s.tables.axleOf c) (unlatched c s) c
  exact latch.trans (by simp [unlatched])

/-- From before the restore to the partner holds evaluated, the channel is kept as the evaluation keeps it. -/
theorem reheld_kept (c : Chan) (s : State) : HoldKept c s (reheld c s) := by
  have unlatched_kept : HoldKept c s (unlatched c s) := ⟨rfl, by simp [unlatched, Channel.usable], .inl (by simp [unlatched])⟩
  exact unlatched_kept.trans (evaluateHolds_kept ..)

/-- The mapped channels of the axle have the partner holds that are wanted. -/
theorem reheld_partnerHold {o : Chan} (mapped : s.tables.mapped o = true) (axle : s.tables.axleOf o = s.tables.axleOf c) :
    ((reheld c s).chan.nth o).partnerHold = partnerWanted (reheld c s) o := by
  obtain ⟨_, _, hold⟩ := evaluateHolds_holds (s.tables.axleOf c) (unlatched c s) o
  exact hold mapped axle

/-- RESTORE_CHANNEL for a channel beyond the variant's count is answered BAD_INDEX. -/
theorem exec_restoreChannel_badIndex (serving : Serving .restoreChannel r s)
    (h : s.variant.channels ≤ (r.args.getD 0 0).toNat) : exec .restoreChannel s = .next (answer r .badIndex [] s) := by
  have named : chanOf s.variant (arg r 0) = none := chanOf_of_le h
  refine congrArg Host.Outcome.next ((completeService_serving serving _).trans ?_)
  simp only [named]

/-- For a channel in range it is answered after the restore, with the kinds left (log 37). -/
theorem exec_restoreChannel_answered (serving : Serving .restoreChannel r s) (val : c.val = (r.args.getD 0 0).toNat)
    (has : c.val < s.variant.channels) :
    exec .restoreChannel s =
      .next (answer r (if (remaining s c).isEmpty = true then .ok else .condition) [latchByte (remaining s c)]
        (restore c s)) := by
  have named : chanOf s.variant (arg r 0) = some c := chanOf_of_val val has
  refine congrArg Host.Outcome.next ((completeService_serving serving _).trans ?_)
  simp only [named]
  rfl

/-- A restore leaves the latch set with the kinds left. -/
theorem restore_latch (c : Chan) (s : State) : ((restore c s).chan.nth c).latch = remaining s c := by
  by_cases same : remaining s c = (s.chan.nth c).latch
  · rw [restore_of_same same, same]
  · by_cases empty : (remaining s c).isEmpty = true
    · obtain ⟨latch, _⟩ := leaveYielded_holds c (holdReport c (reheld c s)) c
      rw [restore_of_emptied same empty, latch]
      simpa using reheld_latch c s
    · rw [restore_of_left same empty, reheld_latch]

/-- What a restore leaves as it was. -/
theorem restore_keeps (c : Chan) (s : State) :
    (restore c s).monitor = s.monitor ∧ (restore c s).tables = s.tables ∧ (restore c s).wheel = s.wheel ∧
      (restore c s).reference = s.reference ∧ (restore c s).management.queue = s.management.queue := by
  unfold restore
  dsimp only
  split
  · exact ⟨rfl, rfl, rfl, rfl, rfl⟩
  · split <;> simp

/-! A restore that leaves no kind: the held-out report, then the test of R122. -/

/-- The restored channel once the held-out report is made, before the test of R122. -/
def reported (c : Chan) (s : State) : State := holdReport c (reheld c s)

theorem reported_kept (c : Chan) (s : State) : HoldKept c s (reported c s) := (reheld_kept c s).trans (holdReport_kept ..)

/-- The held-out report stands after the test of R122. -/
theorem restored_heldOut (mapped : s.tables.mapped c = true) :
    (leaveYielded c (reported c s)).control.heldOut.nth c = ((leaveYielded c (reported c s)).chan.nth c).isHeldOut := by
  have told : (reported c s).control.heldOut.nth c = ((reheld c s).chan.nth c).isHeldOut := by
    simp [reported, holdReport_heldOut, reheld, unlatched, mapped]
  have control : (leaveYielded c (reported c s)).control = (reported c s).control := by simp
  rw [leaveYielded_isHeldOut, control, told]
  simp [reported]

/-- So do the partner holds of the axle. -/
theorem restored_partnerHold {o : Chan} (mapped : s.tables.mapped o = true) (axle : s.tables.axleOf o = s.tables.axleOf c) :
    ((leaveYielded c (reported c s)).chan.nth o).partnerHold = partnerWanted (leaveYielded c (reported c s)) o := by
  have chan : (reported c s).chan = (reheld c s).chan := by simp [reported]
  obtain ⟨_, _, hold⟩ := leaveYielded_holds c (reported c s) o
  have wanted := partnerWanted_congr (s := leaveYielded c (reported c s)) (t := reheld c s) (by simp [reported])
    (fun x => by rw [(leaveYielded_holds c (reported c s) x).1, chan]) o
  rw [hold, wanted, chan, reheld_partnerHold mapped axle]

/-- A YIELDED channel that has all that R122 asks ends in FOLLOW. -/
theorem restored_follow (empty : (remaining s c).isEmpty = true) (yielded : (s.chan.nth c).state = .yielded)
    (modulating : s.control.part.modulating = true)
    (free : ((leaveYielded c (reported c s)).chan.nth c).partnerHold = false) (wheel : (s.wheel.nth c).usable = true)
    (pressure : (s.chan.nth c).usable = true) : ((leaveYielded c (reported c s)).chan.nth c).state = .follow := by
  obtain ⟨part, usable, move⟩ := reported_kept c s
  obtain ⟨_, _, hold⟩ := leaveYielded_holds c (reported c s) c
  have latch : ((reported c s).chan.nth c).latch = remaining s c := by simpa [reported] using reheld_latch c s
  have wheels : (reported c s).wheel = s.wheel := by simp [reported, reheld, unlatched]
  have passes : ((reported c s).chan.nth c).state = .yielded → mayFollow c (reported c s) = true := fun waits => by
    simp [mayFollow, waits, part, modulating, latch, empty, hold.symm.trans free, wheels, wheel, usable, pressure]
  rw [leaveYielded_state, testedState]
  rcases move with same | waits | ⟨_, follow⟩
  · exact if_pos (passes (same.trans yielded))
  · exact if_pos (passes waits)
  · rw [follow, ite_self]

/-- Outside SERVICE and DEGRADED a channel stays in its state or ends in YIELDED. -/
theorem restored_still (still : s.control.part.modulating = false) :
    ((leaveYielded c (reported c s)).chan.nth c).state = (s.chan.nth c).state ∨
      ((leaveYielded c (reported c s)).chan.nth c).state = .yielded := by
  rcases ((reported_kept c s).trans (leaveYielded_kept ..)).move with same | yielded | ⟨modulating, _⟩
  · exact .inl same
  · exact .inr yielded
  · exact absurd (modulating.symm.trans still) (by decide)

end Restore

/-- Settles O45: the restore by whether kinds are removed, and by whether any is left. -/
theorem restoreChannel : Obligations.RestoreChannel := by
  intro r s serving
  refine ⟨exec_restoreChannel_badIndex serving, fun c val has =>
    ⟨restore c s, exec_restoreChannel_answered serving val has, restore_of_same, restore_latch c s,
      fun changed empty mapped => ?_, restore_keeps c s⟩⟩
  rw [restore_of_emptied changed empty]
  exact ⟨restored_heldOut mapped, fun o => restored_partnerHold, fun yielded modulating free wheel pressure =>
    restored_follow empty yielded modulating free wheel pressure, restored_still⟩

end Sys2Proof.Machine
end

section
/-! PROOFS. The reads of the part, of a channel, of the fault list and of the first fault, byte by byte (R179 to R183). -/

namespace Sys2Proof.Machine

open Sys2Proof

/-! ## Numbers as bytes -/

/-- A run of eight bits of a word is a byte of its number. -/
theorem extractLsb'_eq_byte {w : Nat} (x : BitVec w) (k : Nat) : x.extractLsb' k 8 = byte (x.toNat / 2 ^ k) := by
  rw [← Nat.shiftRight_eq_div_pow]
  rfl

/-- Part time as four bytes, high byte first. -/
theorem be32_eq (t : Time) :
    be32 t = [byte (t.toNat / 16777216), byte (t.toNat / 65536), byte (t.toNat / 256), byte t.toNat] := by
  simp [be32, extractLsb'_eq_byte]

/-- Two bytes of a number below 65536 spell it. -/
theorem byte_pair {n : Nat} (h : n < 65536) : (byte (n / 256)).toNat * 256 + (byte n).toNat = n := by
  simp only [byte, BitVec.toNat_ofNat]
  omega

theorem decisionCode_lt (d : Decision) : decisionCode d < 4 := by
  cases d <;> decide

theorem bit_le (b : Bool) : bit b ≤ 1 := by
  cases b <;> decide

/-! ## The fields of the reads (R179 to R181) -/

/-- The backup cause as its number, 0 where there is none. -/
theorem causeNumber_eq (k : Option FaultKind) : causeNumber k = (k.map FaultKind.number).getD 0 := by
  cases k <;> rfl

/-- The time since dump-since in units of 16 ms, 255 from 4080 ms on. -/
theorem dumpAge_some (now d : Time) :
    dumpAge now (some d) = if 4080 ≤ (now - d).toNat then 255 else (now - d).toNat / 16 := by
  simp only [dumpAge, elapsed]
  split <;> omega

/-- From the moment part time reaches settle-until a read shows none. -/
theorem settleShown_of_reached {now u : Time} (h : (now - u).toNat < 2 ^ 31) : settleShown now (some u) = none :=
  if_pos (decide_eq_true h)

/-- Before that moment a read shows it. -/
theorem settleShown_of_early {now u : Time} (h : 2 ^ 31 ≤ (now - u).toNat) : settleShown now (some u) = some u :=
  if_neg fun reached => absurd (of_decide_eq_true reached) (Nat.not_lt.mpr h)

/-- The time to settle-until as a read shows it. -/
def settleByte (now : Time) (settle : Option Time) : Nat := settleLeft now (settleShown now settle)

/-- It is 0 where settle-until is absent or reached, and else the milliseconds to go, at least 1 and at most 255. -/
theorem settleByte_spec (now : Time) (settle : Option Time) :
    (settle = none → settleByte now settle = 0) ∧
      ∀ u, settle = some u →
        ((now - u).toNat < 2 ^ 31 → settleByte now settle = 0) ∧
        (2 ^ 31 ≤ (now - u).toNat → 1 ≤ settleByte now settle ∧ settleByte now settle = min 255 (u - now).toNat) := by
  refine ⟨fun absent => absent ▸ rfl, ?_⟩
  rintro u rfl
  refine ⟨fun reached => ?_, fun early => ?_⟩
  · rw [settleByte, settleShown_of_reached reached]
    rfl
  · obtain ⟨_, _, left⟩ := settleLeft_shown_pos (settleShown_of_early early)
    refine ⟨left, ?_⟩
    rw [settleByte, settleShown_of_early early]
    rfl

/-- The flag of a settle-until shown stands exactly where there is time to go. -/
theorem settleShown_flag (now : Time) (settle : Option Time) :
    32 * bit (settleShown now settle).isSome = if settleByte now settle = 0 then 0 else 32 := by
  cases shown : settleShown now settle with
  | none => simp [settleByte, shown, settleLeft, bit]
  | some u =>
    obtain ⟨_, _, left⟩ := settleLeft_shown_pos shown
    simp [settleByte, bit, Nat.ne_of_gt left]

section Halves

variable {c : Chan} {s : State}

/-- Bytes 5 and 6 of half 0: the decision's code above the slip (R180). -/
def slipWord (s : State) (c : Chan) : Nat :=
  16384 * decisionCode (s.reference.decision.nth c) + s.reference.slip.nth c % 1024

/-- A slip in its range is spelt as it is. -/
theorem slipWord_bytes (h : s.reference.slip.nth c ≤ 1000) :
    (byte (slipWord s c / 256)).toNat * 256 + (byte (slipWord s c)).toNat =
      decisionCode (s.reference.decision.nth c) * 16384 + s.reference.slip.nth c := by
  have code := decisionCode_lt (s.reference.decision.nth c)
  rw [slipWord, byte_pair (by omega)]
  omega

/-- Bytes 0 and 1 of half 1: the demand's two flags above the target (R181). -/
def targetWord (s : State) (c : Chan) : Nat :=
  32768 * bit s.demand.stale + 16384 * bit s.demand.stopHold + s.demand.target.nth c % 1024

/-- A target in its range is spelt as it is. -/
theorem targetWord_bytes (h : s.demand.target.nth c ≤ 1000) :
    (byte (targetWord s c / 256)).toNat * 256 + (byte (targetWord s c)).toNat =
      32768 * bit s.demand.stale + 16384 * bit s.demand.stopHold + s.demand.target.nth c := by
  have stale := bit_le s.demand.stale
  have stopHold := bit_le s.demand.stopHold
  rw [targetWord, byte_pair (by omega)]
  omega

/-- The flags of half 1 with that of settle-until read off the time to go. -/
theorem pressureHalf_flags (s : State) (c : Chan) :
    pressureHalf s c =
      let x := s.chan.nth c
      let p := s.scheduler.slots.nth c
      [byte (targetWord s c / 256), byte (targetWord s c), byte (x.measured.getD 65535 / 256), byte (x.measured.getD 65535),
        byte x.offset, byte p.activeCommand.pulse,
        byte (modeCode p.activeCommand.mode + 4 * bit p.written + 8 * bit x.stale + 16 * bit x.lost
          + (if settleByte s.now x.settleUntil = 0 then 0 else 32)),
        byte x.trackCount, byte (settleByte s.now x.settleUntil)] := by
  simp only [pressureHalf, settleShown_flag]
  rfl

end Halves

/-! ## The reads -/

section Reads

variable {c : Chan} {r : Request} {s : State}

/-- PART_READ (R179). -/
theorem exec_partRead (serving : Serving .partRead r s) : exec .partRead s = .next (answer r .ok (partReadData s) s) :=
  congrArg Host.Outcome.next (completeService_serving serving _)

/-- CHANNEL_READ of half 0 (R180). -/
theorem exec_channelRead_wheel (serving : Serving .channelRead r s) (val : c.val = (r.args.getD 0 0).toNat)
    (has : c.val < s.variant.channels) (half : (r.args.getD 1 0).toNat = 0) :
    exec .channelRead s = .next (answer r .ok (wheelHalf s c) s) := by
  have named : chanOf s.variant (arg r 0) = some c := chanOf_of_val val has
  have first : arg r 1 = 0 := half
  refine congrArg Host.Outcome.next ((completeService_serving serving _).trans ?_)
  simp only [named, first]

/-- CHANNEL_READ of half 1 (R181). -/
theorem exec_channelRead_pressure (serving : Serving .channelRead r s) (val : c.val = (r.args.getD 0 0).toNat)
    (has : c.val < s.variant.channels) (half : (r.args.getD 1 0).toNat = 1) :
    exec .channelRead s = .next (answer r .ok (pressureHalf s c) s) := by
  have named : chanOf s.variant (arg r 0) = some c := chanOf_of_val val has
  have second : arg r 1 = 1 := half
  refine congrArg Host.Outcome.next ((completeService_serving serving _).trans ?_)
  simp only [named, second]

/-- CHANNEL_READ of another channel or another half. -/
theorem exec_channelRead_badIndex (serving : Serving .channelRead r s)
    (h : s.variant.channels ≤ (r.args.getD 0 0).toNat ∨ 2 ≤ (r.args.getD 1 0).toNat) :
    exec .channelRead s = .next (answer r .badIndex [] s) := by
  refine congrArg Host.Outcome.next ((completeService_serving serving _).trans ?_)
  rcases h with lacking | other
  · have named : chanOf s.variant (arg r 0) = none := chanOf_of_le lacking
    simp only [named]
  · have half : 2 ≤ arg r 1 := other
    split
    · omega
    · omega
    · rfl

/-- FAULT_READ from position 16 on (R182). -/
theorem exec_faultRead_badIndex (serving : Serving .faultRead r s) (h : 16 ≤ (r.args.getD 0 0).toNat) :
    exec .faultRead s = .next (answer r .badIndex [] s) :=
  congrArg Host.Outcome.next ((completeService_serving serving _).trans (if_pos h))

/-- FAULT_READ of a position where no entry stands. -/
theorem exec_faultRead_noEntry (serving : Serving .faultRead r s) (h : (r.args.getD 0 0).toNat < 16)
    (ends : s.monitor.list.length ≤ (r.args.getD 0 0).toNat) :
    exec .faultRead s = .next (answer r .noEntry [] s) := by
  have entry : s.monitor.list[arg r 0]? = none := List.getElem?_eq_none ends
  refine congrArg Host.Outcome.next ((completeService_serving serving _).trans ((if_neg (Nat.not_le.mpr h)).trans ?_))
  simp only [entry]

/-- FAULT_READ of an entry. -/
theorem exec_faultRead_entry {e : FaultEntry} (serving : Serving .faultRead r s) (h : (r.args.getD 0 0).toNat < 16)
    (stands : s.monitor.list[(r.args.getD 0 0).toNat]? = some e) :
    exec .faultRead s = .next (answer r .ok (faultEntryData e) s) := by
  have entry : s.monitor.list[arg r 0]? = some e := stands
  refine congrArg Host.Outcome.next ((completeService_serving serving _).trans ((if_neg (Nat.not_le.mpr h)).trans ?_))
  simp only [entry]

/-- The entry's age as two bytes is at most 65535. -/
theorem faultEntryData_eq (e : FaultEntry) :
    faultEntryData e =
      let age := if 65535 ≤ (e.last - e.first).toNat then 65535 else (e.last - e.first).toNat
      [byte (e.kind.number + 32 * bit e.acknowledged + 64 * bit e.present), byte (locusCode e.locus), byte e.count,
        byte (e.last.toNat / 16777216), byte (e.last.toNat / 65536), byte (e.last.toNat / 256), byte e.last.toNat,
        byte (age / 256), byte age] := by
  simp only [faultEntryData, be32_eq, Nat.min_def]
  rfl

/-- FIRST_READ without a first fault (R183). -/
theorem exec_firstRead_none (serving : Serving .firstRead r s) (h : s.monitor.first = none) :
    exec .firstRead s = .next (answer r .noEntry [] s) := by
  refine congrArg Host.Outcome.next ((completeService_serving serving _).trans ?_)
  simp only [h]

/-- FIRST_READ of the first fault. -/
theorem exec_firstRead_some {f : FirstFault} (serving : Serving .firstRead r s) (h : s.monitor.first = some f) :
    exec .firstRead s = .next (answer r .ok (firstFaultData f) s) := by
  refine congrArg Host.Outcome.next ((completeService_serving serving _).trans ?_)
  simp only [h]

end Reads

/-- Settles O38, read by read. -/
theorem stateAndFaultReads : Obligations.StateAndFaultReads := by
  refine ⟨⟨fun r s serving => ?_, fun r s serving => ⟨fun c val has => ⟨fun half => ?_, fun half => ?_⟩,
    exec_channelRead_badIndex serving⟩⟩, fun r s serving => ⟨exec_faultRead_badIndex serving, exec_faultRead_noEntry serving,
    fun has e stands => ?_⟩, fun r s serving => ⟨exec_firstRead_none serving, fun f first => ?_⟩⟩
  · rw [exec_partRead serving, partReadData, be32_eq, causeNumber_eq]
    rfl
  · refine ⟨_, _, byte (slipWord s c / 256), byte (slipWord s c), check_bytes _, slipWord_bytes, ?_⟩
    rw [exec_channelRead_wheel serving val (val ▸ has) half, wheelHalf]
    cases (s.chan.nth c).dumpSince with
    | none => rfl
    | some d =>
      rw [dumpAge_some]
      rfl
  · obtain ⟨absent, stands⟩ := settleByte_spec s.now (s.chan.nth c).settleUntil
    refine ⟨_, _, _, absent, stands, targetWord_bytes, ?_⟩
    rw [exec_channelRead_pressure serving val (val ▸ has) half, pressureHalf_flags]
  · rw [exec_faultRead_entry serving has stands, faultEntryData_eq]
  · rw [exec_firstRead_some serving first, firstFaultData, be32_eq]
    rfl

end Sys2Proof.Machine
end
